-- ==== Sys2Proof/Word.lean ====
section
/-! DEFINITION. The word types of MBFE: bytes, host words, register numbers and 9-bit lengths. -/

namespace Sys2Proof

/-- A byte: 8 bits, an unsigned value 0..255 (00_scope.md R7). -/
abbrev Byte := BitVec 8

/-- A host word: every host access is 32 bits wide (20_memory.md R44). -/
abbrev Word := BitVec 32

/-- A host register number, 0x000..0x7FF (20_memory.md R40). No other number can be written down, so an access above
0x7FF does not exist (93_implementation_defined.md U8). -/
abbrev RegNum := BitVec 11

/-- A length register: 9 bits, so that it can hold 256 (10_state.md R10, 41_codec.md R108). -/
abbrev Len9 := BitVec 9

/-- A CRC register as a number: `hi*256 + lo` (20_memory.md R43). -/
abbrev Crc16 := BitVec 16

end Sys2Proof
end

