-- ==== Sys2Proof/Syntax.lean ====
section
/-! DEFINITION. The twelve commands of MBFE, one constructor per row of spec/opcode_table.json. -/

namespace Sys2Proof

/-- A command (30_encoding.md R66). The immediate `arg` is a byte used as it stands (R65); every other operand comes from
registers and buffers. -/
inductive Instr where
  /-- `CRC.INIT` (40_crc.md R87) -/
  | crcInit
  /-- `CRC.BYTE b` (R88) -/
  | crcByte (b : Byte)
  /-- `CRC.TX` (R89) -/
  | crcTx
  /-- `CRC.RX` (R90) -/
  | crcRx
  /-- `VFY.TX` (R91) -/
  | vfyTx
  /-- `VFY.RX` (R92) -/
  | vfyRx
  /-- `ENC` (41_codec.md R102) -/
  | enc
  /-- `DEC` (R104) -/
  | dec
  /-- `CONNECT a` (42_session.md R123) -/
  | connect (a : Byte)
  /-- `SEND` (R124) -/
  | send
  /-- `RECV` (R125) -/
  | recv
  /-- `DISCONNECT` (R126) -/
  | disconnect
  deriving DecidableEq, Repr

end Sys2Proof
end

