-- ==== Sys2Proof/WellFormed.lean ====
section
/-! DEFINITION. Which instructions and which command words are well formed (30_encoding.md R65 to R67). -/

namespace Sys2Proof

/-- Every command is well formed: its only operand is a byte, which the type already bounds (R65). -/
def Instr.wellFormed : Instr → Bool
  | .crcInit => true
  | .crcByte _ => true
  | .crcTx => true
  | .crcRx => true
  | .vfyTx => true
  | .vfyRx => true
  | .enc => true
  | .dec => true
  | .connect _ => true
  | .send => true
  | .recv => true
  | .disconnect => true

/-- The operation codes of R66. -/
def definedOps : List Nat :=
  [0x80, 0x81, 0x82, 0x83, 0x84, 0x85, 0xA0, 0xA1, 0xC0, 0xC1, 0xC2, 0xC3]

/-- The operation codes that use `arg`: `CRC.BYTE` and `CONNECT` (R65). -/
def argOps : List Nat := [0x81, 0xC0]

/-- First check of R67: bits 31:16 of a command word must be 0. -/
def reservedZero (w : Word) : Bool := w.toNat / 65536 == 0

/-- Second check of R67: `op` must be in the table. -/
def opDefined (w : Word) : Bool := definedOps.contains (w.toNat % 256)

/-- Third check of R67: `arg` must be 0 in a command that takes none. -/
def argAllowed (w : Word) : Bool := argOps.contains (w.toNat % 256) || w.toNat / 256 % 256 == 0

/-- A command word that names a command (R65, R67). -/
def wordWellFormed (w : Word) : Bool := reservedZero w && opDefined w && argAllowed w

end Sys2Proof
end

