-- ==== Sys2Proof/Decode.lean ====
section
/-! DEFINITION. The decoder of command words, and after it the encoder (30_encoding.md R65 to R67, opcode_table.json). -/

namespace Sys2Proof

/-- Why a word is no command, the three causes R67 names. -/
inductive IllegalWord where
  /-- bits 31:16 are not 0; raised by `decode`; the step then completes with `IllegalCommand`, as the spec says -/
  | reservedBits
  /-- `op` is not in the table; raised by `decodeOp`; likewise -/
  | unknownOp
  /-- `arg` is not 0 in a command that takes none; raised by `decodeNoArg`; likewise -/
  | nonzeroArg
  deriving DecidableEq, Repr

/-- Bits 7:0 of a command word (R65). -/
def opField (w : Word) : Byte := w.extractLsb' 0 8

/-- Bits 15:8 of a command word (R65). -/
def argField (w : Word) : Byte := w.extractLsb' 8 8

/-- Bits 31:16 of a command word (R65). -/
def reservedField (w : Word) : BitVec 16 := w.extractLsb' 16 16

/-- A command that takes no `arg`: it must be 0 (R65, R67). -/
def decodeNoArg (arg : Byte) (i : Instr) : Except IllegalWord Instr :=
  if arg = 0 then .ok i else .error .nonzeroArg

/-- The opcode map (R66). -/
def decodeOp (op arg : Byte) : Except IllegalWord Instr :=
  if op = 0x80 then decodeNoArg arg .crcInit
  else if op = 0x81 then .ok (.crcByte arg)
  else if op = 0x82 then decodeNoArg arg .crcTx
  else if op = 0x83 then decodeNoArg arg .crcRx
  else if op = 0x84 then decodeNoArg arg .vfyTx
  else if op = 0x85 then decodeNoArg arg .vfyRx
  else if op = 0xA0 then decodeNoArg arg .enc
  else if op = 0xA1 then decodeNoArg arg .dec
  else if op = 0xC0 then .ok (.connect arg)
  else if op = 0xC1 then decodeNoArg arg .send
  else if op = 0xC2 then decodeNoArg arg .recv
  else if op = 0xC3 then decodeNoArg arg .disconnect
  else .error .unknownOp

/-- The decoder: total on every 32-bit word, refusing an illegal one by the name of its cause (R65 to R67). -/
def decode (w : Word) : Except IllegalWord Instr :=
  if reservedField w = 0 then decodeOp (opField w) (argField w) else .error .reservedBits

/-- The decoder on a word numbered as opcode_table.json numbers it. A command word is one 32-bit datum of the host bus,
so there are no bytes to lay out (20_memory.md R43); a word of more than 32 bits cannot be written to `CMD` (log 12). -/
def decodeTableWord (nbits w : Nat) : Option Instr :=
  if w % 2 ^ nbits < 2 ^ 32 then
    match decode (BitVec.ofNat 32 (w % 2 ^ nbits)) with
    | .ok i => some i
    | .error _ => none
  else none

/-- The `op` of a command (R66). -/
def opOf : Instr → Byte
  | .crcInit => 0x80
  | .crcByte _ => 0x81
  | .crcTx => 0x82
  | .crcRx => 0x83
  | .vfyTx => 0x84
  | .vfyRx => 0x85
  | .enc => 0xA0
  | .dec => 0xA1
  | .connect _ => 0xC0
  | .send => 0xC1
  | .recv => 0xC2
  | .disconnect => 0xC3

/-- The `arg` of a command: the immediate of `CRC.BYTE` and `CONNECT`, else 0 (R65). -/
def argOf : Instr → Byte
  | .crcByte b => b
  | .connect a => a
  | .crcInit => 0
  | .crcTx => 0
  | .crcRx => 0
  | .vfyTx => 0
  | .vfyRx => 0
  | .enc => 0
  | .dec => 0
  | .send => 0
  | .recv => 0
  | .disconnect => 0

/-- The encoder: `(arg << 8) OR op`, bits 31:16 zero (R65, R70). -/
def encode (i : Instr) : Word := ((argOf i).setWidth 32 <<< 8) ||| (opOf i).setWidth 32

/-- One row of opcode_table.json: a command is selected when `(w AND mask) = match` (R66). -/
structure OpcodeRow where
  mnemonic : String
  matchBits : Word
  maskBits : Word
  deriving DecidableEq, Repr

/-- opcode_table.json, row by row. -/
def opcodeRows : List OpcodeRow :=
  [⟨"CRC.INIT", 0x00000080, 0xFFFFFFFF⟩, ⟨"CRC.BYTE", 0x00000081, 0xFFFF00FF⟩,
   ⟨"CRC.TX", 0x00000082, 0xFFFFFFFF⟩, ⟨"CRC.RX", 0x00000083, 0xFFFFFFFF⟩,
   ⟨"VFY.TX", 0x00000084, 0xFFFFFFFF⟩, ⟨"VFY.RX", 0x00000085, 0xFFFFFFFF⟩,
   ⟨"ENC", 0x000000A0, 0xFFFFFFFF⟩, ⟨"DEC", 0x000000A1, 0xFFFFFFFF⟩,
   ⟨"CONNECT", 0x000000C0, 0xFFFF00FF⟩, ⟨"SEND", 0x000000C1, 0xFFFFFFFF⟩,
   ⟨"RECV", 0x000000C2, 0xFFFFFFFF⟩, ⟨"DISCONNECT", 0x000000C3, 0xFFFFFFFF⟩]

/-- Does a word select a row (R66)? -/
def OpcodeRow.selectedBy (r : OpcodeRow) (w : Word) : Bool := (w &&& r.maskBits) == r.matchBits

/-- The row's mnemonic of a command (R66). -/
def mnemonicOf : Instr → String
  | .crcInit => "CRC.INIT"
  | .crcByte _ => "CRC.BYTE"
  | .crcTx => "CRC.TX"
  | .crcRx => "CRC.RX"
  | .vfyTx => "VFY.TX"
  | .vfyRx => "VFY.RX"
  | .enc => "ENC"
  | .dec => "DEC"
  | .connect _ => "CONNECT"
  | .send => "SEND"
  | .recv => "RECV"
  | .disconnect => "DISCONNECT"

end Sys2Proof
end

