-- ==== Sys2Proof/Config.lean ====
section
/-! DEFINITION. The parameters of MBFE (00_scope.md R6) and the free values (93_implementation_defined.md U1, U2). -/

namespace Sys2Proof.Config

/-- The largest frame on the wire, in bytes (R6). -/
abbrev maxFrame : Nat := 256

/-- The largest payload, in bytes (R6). -/
abbrev maxPayload : Nat := 252

/-- Header and CRC: the shortest frame (R6). -/
abbrev minFrame : Nat := 4

/-- The greatest function code a frame built by the block may carry; the least is 1 (R6). -/
abbrev funcMax : Nat := 127

/-- Both bytes of the seed 0xFFFF (R6). -/
abbrev crcSeedByte : Byte := 0xFF

/-- The reflected polynomial 0xA001 (R6). -/
abbrev crcPoly : Crc16 := 0xA001

/-- The function code of the identification exchange at connect (R6). -/
abbrev idFunction : Byte := 0x11

/-- The `max_len` given to every transport read (R6). -/
abbrev readMax : Nat := 256

/-- Bytes in each frame buffer (10_state.md R19, R20). -/
abbrev bufferSize : Nat := 256

/-- FREE VALUE (log 3): what `TXBUF[i]` holds from the `epoch`-th reset until it is written. -/
opaque txResetByte : Nat → Nat → Byte

/-- FREE VALUE (log 3): what `RXBUF[i]` holds from the `epoch`-th reset until it is written. -/
opaque rxResetByte : Nat → Nat → Byte

/-- FREE VALUE (log 2): whether the transport answers its `k`-th transaction with an error, where no answer is scheduled. -/
opaque freeReplyFailed : Nat → Bool

/-- FREE VALUE (log 2): the count the transport answers to its `k`-th transaction, where no answer is scheduled. -/
opaque freeReplyCount : Nat → Nat

/-- FREE VALUE (log 2): the bytes the transport answers to its `k`-th transaction, where no answer is scheduled. -/
opaque freeReplyBytes : Nat → List Byte

end Sys2Proof.Config
end

