-- ==== Sys2Proof/Machine/State.lean ====
section
/-! DEFINITION. The state of MBFE as plain data (10_state.md R10, R25), the events of the outside world, and the reasons a step can
stop. -/

namespace Sys2Proof.Machine

/-- The kinds a command can end with (60_exceptions.md R200). The numbers are given by `StatusCode.num`. -/
inductive StatusCode where
  /-- the command did what it is for -/
  | ok
  /-- "caller violated a precondition" -/
  | invalidArgument
  /-- fewer than 4 bytes -/
  | timeout
  /-- "frame received but checksum mismatch" -/
  | badCrc
  /-- "frame checksum valid but address/function does not match the pending request" -/
  | protocolError
  /-- "underlying write/read/open/close failure", and a short write -/
  | transportError
  /-- a session command issued in a session state that does not permit it -/
  | illegalState
  /-- a command word that matches no command -/
  | illegalCommand
  deriving DecidableEq, Repr

/-- One transaction MBFE issues on the transport port (20_memory.md R48 to R52). -/
inductive TpCall where
  /-- `TpOpen()` -/
  | tpOpen
  /-- `TpClose()` -/
  | tpClose
  /-- `TpWrite(s)` -/
  | tpWrite (frame : List Byte)
  /-- `TpRead(max)` -/
  | tpRead (maxLen : Nat)
  deriving DecidableEq, Repr

/-- What the transport answers to one transaction, whichever kind it is: `failed` is the answer `error`; else `TpWrite`
takes `count` and `TpRead` takes `bytes` (R49 to R52, log 2). -/
structure Reply where
  failed : Bool
  count : Nat
  bytes : List Byte
  deriving DecidableEq, Repr

/-- What the outside world does to the block: a host transaction (43_host_access.md R150, R151), or the platform's reset
(70_reset_and_hazards.md R230). -/
inductive Event where
  /-- `HostRead(n)` -/
  | read (n : RegNum)
  /-- `HostWrite(n, v)` -/
  | write (n : RegNum) (v : Word)
  /-- reset between two host transactions -/
  | reset
  /-- reset while the command of word `w` is running, after it has issued `calls` transport transactions (log 6) -/
  | resetDuring (w : Word) (calls : Nat)
  deriving DecidableEq, Repr

/-- The bytes of a buffer written since the last reset, as pairs of index and byte. `Memory.wf` is the one canonical
form: indexes strictly rising and below 256. A byte not listed has not been written since the last reset (log 4). -/
abbrev Memory := List Host.Cell

/-- The state: the architectural registers and buffers of R10, then the model's own fields (logs 1 to 5). -/
structure State where
  /-- `ADDR` -/
  addr : Byte
  /-- `FUNC` -/
  func : Byte
  /-- `PLEN` -/
  plen : Byte
  /-- `CLEN` -/
  clen : Len9
  /-- `RXLEN` -/
  rxlen : Len9
  /-- `EXP` -/
  exp : Crc16
  /-- `CRC` -/
  crc : Crc16
  /-- `TXLEN` -/
  txlen : Len9
  /-- `RPLEN` -/
  rplen : Byte
  /-- `STATUS.CODE` -/
  code : StatusCode
  /-- `STATUS.MATCH` -/
  matched : Bool
  /-- `SESSION.CONNECTED` -/
  connected : Bool
  /-- `SESSION.PENDING` -/
  pending : Bool
  /-- `SESSION.DEVADDR` -/
  devaddr : Byte
  /-- `SESSION.PENDFUNC` -/
  pendfunc : Byte
  /-- `TXBUF`: the bytes written since the last reset -/
  txbuf : Memory
  /-- `RXBUF`: the bytes written since the last reset -/
  rxbuf : Memory
  /-- the model's own: how many resets there have been (log 3) -/
  epoch : Nat
  /-- the model's own: what the outside world does next, oldest first (log 1) -/
  events : List Event
  /-- the model's own: what `HostRead` has returned, newest first (log 5) -/
  hostReads : List Word
  /-- the model's own: the transport's next answers, oldest first (log 2) -/
  tpReplies : List Reply
  /-- the model's own: the transport transactions issued so far, newest first (log 5) -/
  tpCalls : List TpCall
  deriving DecidableEq, Repr

/-- The machine after reset (R25, R230): every register 0 but `CRC`, which is 0xFFFF; the session Disconnected; no buffer byte
written. The model's own fields are empty. -/
def State.reset : State where
  addr := 0
  func := 0
  plen := 0
  clen := 0
  rxlen := 0
  exp := 0
  crc := 0xFFFF
  txlen := 0
  rplen := 0
  code := .ok
  matched := false
  connected := false
  pending := false
  devaddr := 0
  pendfunc := 0
  txbuf := []
  rxbuf := []
  epoch := 0
  events := []
  hostReads := []
  tpReplies := []
  tpCalls := []

/-- Faults. There is no constructor: a host access never fails (43_host_access.md R150, R151) and every command ends by writing a status
code (60_exceptions.md R206), so nothing stops the machine (log 10). -/
inductive Fault
  deriving DecidableEq, Repr

/-- Refusals. -/
inductive Refusal where
  /-- An instruction without a meaning: raised by an arm of `exec` that has none. No arm of this model raises it. Safe: the model stops
  where the hardware goes on. -/
  | notModelled (mnemonic : String)
  deriving DecidableEq, Repr

end Sys2Proof.Machine
end

