-- ==== Sys2Proof/Machine/Flags.lean ====
section
/-! DEFINITION. The two condition values of `STATUS` (10_state.md R14): the numbers of `CODE`, the register's value, and their two writers. -/

namespace Sys2Proof.Machine

/-- The number of a status code (60_exceptions.md R200). -/
def StatusCode.num : StatusCode → Byte
  | .ok => 0
  | .invalidArgument => 1
  | .timeout => 2
  | .badCrc => 3
  | .protocolError => 4
  | .transportError => 5
  | .illegalState => 6
  | .illegalCommand => 7

/-- A Boolean as one bit of a 32-bit word. -/
def bitWord (b : Bool) : Word := if b then 1 else 0

/-- `STATUS` as the host reads it: `CODE OR (MATCH << 4)` (43_host_access.md R150). -/
def State.statusWord (s : State) : Word := s.code.num.setWidth 32 ||| (bitWord s.matched <<< 4)

/-- `SESSION` as the host reads it: `CONNECTED OR (PENDING << 1) OR (DEVADDR << 8) OR (PENDFUNC << 16)` (R150). -/
def State.sessionWord (s : State) : Word :=
  bitWord s.connected ||| (bitWord s.pending <<< 1) ||| (s.devaddr.setWidth 32 <<< 8)
    ||| (s.pendfunc.setWidth 32 <<< 16)

/-- `STATUS.CODE <- code(K)`. -/
def State.withCode (s : State) (k : StatusCode) : State := { s with code := k }

/-- `STATUS.MATCH <- b`. -/
def State.withMatch (s : State) (b : Bool) : State := { s with matched := b }

end Sys2Proof.Machine
end

