-- ==== Sys2Proof/Machine/Ops.lean ====
section
/-! DEFINITION. The shared operations: register writes, the buffers, ending a command (`complete`, the block's form of taking an
exception), the reset, and the four transport transactions. -/

namespace Sys2Proof.Machine

/-! ### Register writes: each is `REG <- v` (00_scope.md R8) -/

/-- `ADDR <- v` -/
def State.withAddr (s : State) (v : Byte) : State := { s with addr := v }
/-- `FUNC <- v` -/
def State.withFunc (s : State) (v : Byte) : State := { s with func := v }
/-- `PLEN <- v` -/
def State.withPlen (s : State) (v : Byte) : State := { s with plen := v }
/-- `CLEN <- v` -/
def State.withClen (s : State) (v : Len9) : State := { s with clen := v }
/-- `RXLEN <- v` -/
def State.withRxlen (s : State) (v : Len9) : State := { s with rxlen := v }
/-- `EXP <- v` -/
def State.withExp (s : State) (v : Crc16) : State := { s with exp := v }
/-- `CRC <- v` -/
def State.withCrc (s : State) (v : Crc16) : State := { s with crc := v }
/-- `TXLEN <- v` -/
def State.withTxlen (s : State) (v : Len9) : State := { s with txlen := v }
/-- `RPLEN <- v` -/
def State.withRplen (s : State) (v : Byte) : State := { s with rplen := v }
/-- `SESSION <- (CONNECTED, PENDING, DEVADDR, PENDFUNC)` -/
def State.withSession (s : State) (connected pending : Bool) (devaddr pendfunc : Byte) : State :=
  { s with connected := connected, pending := pending, devaddr := devaddr, pendfunc := pendfunc }
/-- the contents of `TXBUF` -/
def State.withTxbuf (s : State) (m : Memory) : State := { s with txbuf := m }
/-- the contents of `RXBUF` -/
def State.withRxbuf (s : State) (m : Memory) : State := { s with rxbuf := m }
/-- the host's and the platform's next actions -/
def State.withEvents (s : State) (es : List Event) : State := { s with events := es }
/-- the values returned to the host -/
def State.withReads (s : State) (vs : List Word) : State := { s with hostReads := vs }
/-- the transport's answers still to come, and the transactions issued -/
def State.withTp (s : State) (rs : List Reply) (cs : List TpCall) : State :=
  { s with tpReplies := rs, tpCalls := cs }

/-! ### A buffer as a list of the bytes written -/

/-- Does the list's first index, if any, lie above `i`? -/
def Memory.above (i : Nat) : Memory → Bool
  | [] => true
  | (k, _) :: _ => i < k

/-- The canonical form: indexes strictly rising, and inside the 256 bytes of the buffer (log 4). -/
def Memory.wf : Memory → Bool
  | [] => true
  | (k, _) :: m => k < Config.bufferSize && Memory.above k m && Memory.wf m

/-- The byte written at index `i` since the last reset, if any. -/
def Memory.get : Memory → Nat → Option Byte
  | [], _ => none
  | (k, b) :: m, i => if k = i then some b else Memory.get m i

/-- Write one byte, keeping the canonical form. -/
def Memory.set : Memory → Nat → Byte → Memory
  | [], i, b => [(i, b)]
  | (k, c) :: m, i, b =>
    if i < k then (i, b) :: (k, c) :: m
    else if i = k then (i, b) :: m
    else (k, c) :: Memory.set m i b

/-- Write bytes from index `i` upward. -/
def Memory.setFrom : Memory → Nat → List Byte → Memory
  | m, _, [] => m
  | m, i, b :: bs => Memory.setFrom (m.set i b) (i + 1) bs

/-! ### Reading and writing the two buffers -/

/-- `TXBUF[i]` (R8): the byte written, or the free value the reset left (10_state.md R25). -/
def State.txByte (s : State) (i : Nat) : Byte := (s.txbuf.get i).getD (Config.txResetByte s.epoch i)

/-- `RXBUF[i]` (R8). -/
def State.rxByte (s : State) (i : Nat) : Byte := (s.rxbuf.get i).getD (Config.rxResetByte s.epoch i)

/-- `TXBUF[a .. b]`: the bytes from index `a` up to, and without, index `b` (R7, R8). -/
def State.txSlice (s : State) (a b : Nat) : List Byte := (List.range' a (b - a)).map s.txByte

/-- `RXBUF[a .. b]`. -/
def State.rxSlice (s : State) (a b : Nat) : List Byte := (List.range' a (b - a)).map s.rxByte

/-- `TXBUF[i] <- b`, the block's own write: it does not clear `TXLEN` (41_codec.md R102 (c)). -/
def State.setTxByte (s : State) (i : Nat) (b : Byte) : State := s.withTxbuf (s.txbuf.set i b)

/-- `RXBUF[i] <- b`. -/
def State.setRxByte (s : State) (i : Nat) (b : Byte) : State := s.withRxbuf (s.rxbuf.set i b)

/-- `RXBUF[0 .. len(r)] <- r`; the bytes behind keep what they held (10_state.md R20). -/
def State.loadRx (s : State) (r : List Byte) : State := s.withRxbuf (s.rxbuf.setFrom 0 r)

/-! ### Ending a command, and the reset -/

/-- `complete(K)`: the block's form of taking an exception and of ending well. `STATUS.CODE <- code(K)` is all it does:
nothing is saved, no mode changes, control goes nowhere (60_exceptions.md R206, 00_scope.md R8). There is no return
from it (R207): the next transaction simply runs. -/
def complete (k : StatusCode) (s : State) : State := s.withCode k

/-- Reset (70_reset_and_hazards.md R230, 10_state.md R25): every register at its reset value, the buffers at the free values of a new
epoch. The transport and the outside world are not touched (R231). -/
def resetBlock (s : State) : State :=
  { State.reset with
    epoch := s.epoch + 1
    events := s.events
    hostReads := s.hostReads
    tpReplies := s.tpReplies
    tpCalls := s.tpCalls }

/-- Reset while a command is running: of the command that would have led from `s` to `t`, the first `calls` transport transactions
have been issued, none of its remaining statements executes, and the state is that of a reset (R230, U11, log 6). -/
def abandon (calls : Nat) (s t : State) : State :=
  let issued := t.tpCalls.length - s.tpCalls.length
  let kept := min calls issued
  resetBlock (s.withTp (s.tpReplies.drop kept) (t.tpCalls.drop (issued - kept)))

/-! ### The transport port (20_memory.md R48 to R52) -/

/-- The transport's answer to its `k`-th transaction from now on: the scheduled one, or a free value (log 2). -/
def State.replyAt (s : State) (k : Nat) : Reply :=
  (s.tpReplies[k]?).getD
    ⟨Config.freeReplyFailed (s.tpCalls.length + k), Config.freeReplyCount (s.tpCalls.length + k),
      Config.freeReplyBytes (s.tpCalls.length + k)⟩

/-- Issue one transaction: it is recorded and its answer is used up. -/
def State.issue (s : State) (c : TpCall) : State := s.withTp s.tpReplies.tail (c :: s.tpCalls)

/-- The answer of `TpOpen` or `TpClose`: `true` is `ok`, `false` is `error` (R49, R50). -/
def Reply.accepted (r : Reply) : Bool := !r.failed

/-- The answer of `TpWrite(s)`: `none` is `error`, `some n` has `n <= len(s)` (R51, log 11). -/
def Reply.written (r : Reply) (len : Nat) : Option Nat := if r.failed then none else some (min r.count len)

/-- The answer of `TpRead(max)`: `none` is `error`, `some bytes` has at most `max` bytes (R52, log 11). -/
def Reply.received (r : Reply) (maxLen : Nat) : Option (List Byte) :=
  if r.failed then none else some (r.bytes.take maxLen)

/-- `TpOpen()`: was it `ok`, and the state after it (R49). -/
def tpOpen (s : State) : Bool × State := ((s.replyAt 0).accepted, s.issue .tpOpen)

/-- `TpClose()`: was it `ok`, and the state after it (R50). -/
def tpClose (s : State) : Bool × State := ((s.replyAt 0).accepted, s.issue .tpClose)

/-- `TpWrite(frame)`: the count or an error, and the state after it (R51). -/
def tpWrite (frame : List Byte) (s : State) : Option Nat × State :=
  ((s.replyAt 0).written frame.length, s.issue (.tpWrite frame))

/-- `TpRead(READ_MAX)`: the bytes or an error, and the state after it (R52). -/
def tpRead (s : State) : Option (List Byte) × State :=
  ((s.replyAt 0).received Config.readMax, s.issue (.tpRead Config.readMax))

end Sys2Proof.Machine
end

