-- ==== Sys2Proof/Machine/Operands.lean ====
section
/-! DEFINITION. The operand forms: halves of a 16-bit register, lengths, and the argument checks the commands share. -/

namespace Sys2Proof.Machine

/-- The low byte of a CRC register, `CRC.LO` or `EXP.LO` (10_state.md R10). -/
def loByte (c : Crc16) : Byte := c.extractLsb' 0 8

/-- The high byte of a CRC register, `CRC.HI` or `EXP.HI`. -/
def hiByte (c : Crc16) : Byte := c.extractLsb' 8 8

/-- A CRC pair `(lo, hi)` as a register: `LO` in 7:0, `HI` in 15:8, `lo OR (hi << 8)` (20_memory.md R43, 43_host_access.md R150). -/
def packCrc (c : Byte × Byte) : Crc16 := c.1.setWidth 16 ||| (c.2.setWidth 16 <<< 8)

/-- `CLEN > 256`: a length no buffer has (40_crc.md R89 to R92). -/
def State.clenTooLong (s : State) : Bool := decide (Config.bufferSize < s.clen.toNat)

/-- `RXLEN > 256` (41_codec.md R104). -/
def State.rxlenTooLong (s : State) : Bool := decide (Config.bufferSize < s.rxlen.toNat)

/-- `f = 0 or f > 127` (41_codec.md R101). -/
def functionRefused (f : Byte) : Bool := decide (f.toNat = 0 ∨ Config.funcMax < f.toNat)

/-- `FUNC = 0 or FUNC > 127 or PLEN > 252`: what `ENC` and `SEND` refuse (R102, 42_session.md R124). -/
def State.requestRefused (s : State) : Bool :=
  functionRefused s.func || decide (Config.maxPayload < s.plen.toNat)

/-- A byte count as a 9-bit length register's value. -/
def len9 (n : Nat) : Len9 := BitVec.ofNat 9 n

/-- A payload length as `RPLEN`'s value. -/
def len8 (n : Nat) : Byte := BitVec.ofNat 8 n

end Sys2Proof.Machine
end

