-- ==== Sys2Proof/Machine/Crc.lean ====
section
/-! DEFINITION. The CRC unit (40_crc.md): its functions, and the meanings of `CRC.INIT`, `CRC.BYTE`, `CRC.TX`, `CRC.RX`, `VFY.TX`, `VFY.RX`. -/

namespace Sys2Proof.Machine

/-- `crc_step(lo, hi, b)` on the pair `(lo, hi)` (R81). -/
def crcStep (c : Byte × Byte) (b : Byte) : Byte × Byte :=
  (c.2 ^^^ thi (c.1 ^^^ b), tlo (c.1 ^^^ b))

/-- The CRC steps of a byte sequence from any pair. -/
def crcFrom (c : Byte × Byte) (s : List Byte) : Byte × Byte := s.foldl crcStep c

/-- `crc16(s)`: from the seed (R84). -/
def crc16 (s : List Byte) : Byte × Byte := crcFrom (Config.crcSeedByte, Config.crcSeedByte) s

/-- `verify(s, elo, ehi)` (R86). -/
def verify (s : List Byte) (elo ehi : Byte) : Bool := (crc16 s).1 == elo && (crc16 s).2 == ehi

/-! ### The bitwise definition the tables come from (R85) -/

/-- `sh(c)`: one shift of the reflected CRC (R85). -/
def crcShift (c : Crc16) : Crc16 := if c.getLsbD 0 then (c >>> 1) ^^^ Config.crcPoly else c >>> 1

/-- `sh` applied `k` times. -/
def crcShifts : Nat → Crc16 → Crc16
  | 0, c => c
  | k + 1, c => crcShifts k (crcShift c)

/-- `T[i]` (R85). -/
def crcTableWord (i : Byte) : Crc16 := crcShifts 8 (i.setWidth 16)

/-- One byte of the bitwise CRC: XOR it in, then eight shifts (R85). -/
def crcBitwiseStep (c : Crc16) (b : Byte) : Crc16 := crcShifts 8 (c ^^^ b.setWidth 16)

/-- The standard Modbus CRC16, bit by bit (R85). -/
def crcBitwise (s : List Byte) : Crc16 := s.foldl crcBitwiseStep 0xFFFF

/-! ### The commands (R87 to R92) -/

/-- `CRC.INIT` (R87). -/
def execCrcInit (s : State) : Host.Outcome State Fault Refusal :=
  .next (complete .ok (s.withCrc (packCrc (Config.crcSeedByte, Config.crcSeedByte))))

/-- `CRC.BYTE b` (R88). -/
def execCrcByte (b : Byte) (s : State) : Host.Outcome State Fault Refusal :=
  .next (complete .ok (s.withCrc (packCrc (crcStep (loByte s.crc, hiByte s.crc) b))))

/-- `CRC.TX` and `CRC.RX` on the bytes of their buffer (R89, R90). -/
def crcCommand (bytes : List Byte) (s : State) : State :=
  if s.clenTooLong then complete .invalidArgument s
  else complete .ok (s.withCrc (packCrc (crc16 bytes)))

/-- `CRC.TX` (R89). -/
def execCrcTx (s : State) : Host.Outcome State Fault Refusal :=
  .next (crcCommand (s.txSlice 0 s.clen.toNat) s)

/-- `CRC.RX` (R90). -/
def execCrcRx (s : State) : Host.Outcome State Fault Refusal :=
  .next (crcCommand (s.rxSlice 0 s.clen.toNat) s)

/-- `VFY.TX` and `VFY.RX` on the bytes of their buffer (R91, R92). A mismatch is an answer, not an error. -/
def verifyCommand (bytes : List Byte) (s : State) : State :=
  if s.clenTooLong then complete .invalidArgument (s.withMatch false)
  else complete .ok (s.withMatch (verify bytes (loByte s.exp) (hiByte s.exp)))

/-- `VFY.TX` (R91). -/
def execVfyTx (s : State) : Host.Outcome State Fault Refusal :=
  .next (verifyCommand (s.txSlice 0 s.clen.toNat) s)

/-- `VFY.RX` (R92). -/
def execVfyRx (s : State) : Host.Outcome State Fault Refusal :=
  .next (verifyCommand (s.rxSlice 0 s.clen.toNat) s)

end Sys2Proof.Machine
end

