-- ==== Sys2Proof/Machine/Codec.lean ====
section
/-! DEFINITION. The frame codec (41_codec.md): its two functions, and the meanings of `ENC` and `DEC`. -/

namespace Sys2Proof.Machine

/-- `encode(a, f, p)` (R101). -/
def frameEncode (a f : Byte) (p : List Byte) : Except StatusCode (List Byte) :=
  if functionRefused f || decide (Config.maxPayload < p.length) then .error .invalidArgument
  else .ok ([a, f] ++ p ++ [(crc16 ([a, f] ++ p)).1, (crc16 ([a, f] ++ p)).2])

/-- `decode(raw, ea, ef)`: the payload's length or the first error of length, CRC, header (R103). -/
def frameDecode (raw : List Byte) (ea ef : Byte) : Except StatusCode Nat :=
  if raw.length < Config.minFrame then .error .timeout
  else if !verify (raw.take (raw.length - 2)) (raw.getD (raw.length - 2) 0) (raw.getD (raw.length - 1) 0) then
    .error .badCrc
  else if raw.getD 0 0 != ea || raw.getD 1 0 != ef then .error .protocolError
  else .ok (raw.length - 4)

/-- Build a frame in place around the payload already staged at `TXBUF[2 .. 2+len]`: header, CRC, `TXLEN` (R102, and the same statements
of 42_session.md R123 and R124). -/
def buildFrame (a f : Byte) (len : Nat) (s : State) : State :=
  let h := (s.setTxByte 0 a).setTxByte 1 f
  let c := crc16 (h.txSlice 0 (2 + len))
  ((h.setTxByte (2 + len) c.1).setTxByte (3 + len) c.2).withTxlen (len9 (len + 4))

/-- Decode `RXBUF[0 .. n]` in place: the status code, and `RPLEN` set to the payload's length or to 0 (R104). -/
def decodeRx (n : Nat) (ea ef : Byte) (s : State) : StatusCode × State :=
  match frameDecode (s.rxSlice 0 n) ea ef with
  | .ok len => (.ok, s.withRplen (len8 len))
  | .error k => (k, s.withRplen 0)

/-- `ENC` (R102). -/
def execEnc (s : State) : Host.Outcome State Fault Refusal :=
  .next (if s.requestRefused then complete .invalidArgument (s.withTxlen 0)
    else complete .ok (buildFrame s.addr s.func s.plen.toNat s))

/-- `DEC` (R104). -/
def execDec (s : State) : Host.Outcome State Fault Refusal :=
  .next (if s.rxlenTooLong then complete .invalidArgument (s.withRplen 0)
    else
      let r := decodeRx s.rxlen.toNat s.addr s.func s
      complete r.1 r.2)

end Sys2Proof.Machine
end

