-- ==== Sys2Proof/Machine/Session.lean ====
section
/-! DEFINITION. The session unit (42_session.md): the meanings of `CONNECT`, `SEND`, `RECV`, `DISCONNECT`. -/

namespace Sys2Proof.Machine

/-- `SESSION <- 0`: Disconnected (10_state.md R15). -/
def State.disconnected (s : State) : State := s.withSession false false 0 0

/-- Read one reply and decode it: the common part of `RECV` and `CONNECT` (R123, R125). The code says how it ended; `RXBUF`,
`RXLEN` and `RPLEN` are set; the session is left to the caller. -/
def receiveReply (ea ef : Byte) (s : State) : StatusCode × State :=
  match tpRead s with
  | (none, t) => (.transportError, (t.withRxlen 0).withRplen 0)
  | (some r, t) => decodeRx r.length ea ef ((t.loadRx r).withRxlen (len9 r.length))

/-- `fail(K)` of R123: close the transport, its answer ignored; the session Disconnected. -/
def connectFail (k : StatusCode) (s : State) : State := complete k (tpClose s).2.disconnected

/-- The reply of the identification exchange (R123, from `TpRead` on). -/
def identifyReply (a : Byte) (s : State) : State :=
  match receiveReply a Config.idFunction s with
  | (.ok, t) => complete .ok (t.withSession true false a 0)
  | (k, t) => connectFail k t

/-- The identification exchange: function 0x11 with an empty payload (R123, after `TpOpen`). -/
def identify (a : Byte) (s : State) : State :=
  let b := buildFrame a Config.idFunction 0 s
  let w := tpWrite (b.txSlice 0 4) b
  if w.1 = some 4 then identifyReply a w.2 else connectFail .transportError w.2

/-- `CONNECT a` (R123). -/
def execConnect (a : Byte) (s : State) : Host.Outcome State Fault Refusal :=
  .next (if s.connected then complete .illegalState s
    else
      let o := tpOpen s
      if o.1 then identify a o.2 else complete .transportError o.2)

/-- The request written by `SEND`: on a whole write the session awaits the reply to `FUNC` (R124, from `TpWrite` on). -/
def sendFrame (s : State) : State :=
  let w := tpWrite (s.txSlice 0 s.txlen.toNat) s
  if w.1 = some s.txlen.toNat then
    complete .ok (w.2.withSession w.2.connected true w.2.devaddr w.2.func)
  else complete .transportError w.2

/-- `SEND` (R124): the state is tested before the arguments. -/
def execSend (s : State) : Host.Outcome State Fault Refusal :=
  .next (if s.connected && !s.pending then
      if s.requestRefused then complete .invalidArgument (s.withTxlen 0)
      else sendFrame (buildFrame s.devaddr s.func s.plen.toNat s)
    else complete .illegalState s)

/-- `RECV` (R125): whatever the outcome, the session is Idle again. -/
def execRecv (s : State) : Host.Outcome State Fault Refusal :=
  .next (if s.pending then
      let r := receiveReply s.devaddr s.pendfunc s
      complete r.1 (r.2.withSession r.2.connected false r.2.devaddr 0)
    else complete .illegalState s)

/-- `DISCONNECT` (R126). -/
def execDisconnect (s : State) : Host.Outcome State Fault Refusal :=
  .next (if s.connected then
      let c := tpClose s
      complete (if c.1 then .ok else .transportError) c.2.disconnected
    else complete .ok s)

end Sys2Proof.Machine
end

