-- ==== Sys2Proof/Machine/Dispatch.lean ====
section
/-! DEFINITION. One arm per command: which meaning each has. -/

namespace Sys2Proof.Machine

def exec (i : Instr) (s : State) : Host.Outcome State Fault Refusal :=
  match i with
  -- the CRC unit, 40_crc.md
  | .crcInit => Sys2Proof.Machine.execCrcInit s
  | .crcByte b => Sys2Proof.Machine.execCrcByte b s
  | .crcTx => Sys2Proof.Machine.execCrcTx s
  | .crcRx => Sys2Proof.Machine.execCrcRx s
  | .vfyTx => Sys2Proof.Machine.execVfyTx s
  | .vfyRx => Sys2Proof.Machine.execVfyRx s
  -- the frame codec, 41_codec.md
  | .enc => Sys2Proof.Machine.execEnc s
  | .dec => Sys2Proof.Machine.execDec s
  -- the session unit, 42_session.md
  | .connect a => Sys2Proof.Machine.execConnect a s
  | .send => Sys2Proof.Machine.execSend s
  | .recv => Sys2Proof.Machine.execRecv s
  | .disconnect => Sys2Proof.Machine.execDisconnect s

end Sys2Proof.Machine
end

