-- ==== Sys2Proof/Machine/HostAccess.lean ====
section
/-! DEFINITION. The host's register window (20_memory.md R41, 43_host_access.md): the register map, `HostRead`, and every `HostWrite` but that
to `CMD`. -/

namespace Sys2Proof.Machine

/-- What a register number names (R41). -/
inductive HostReg where
  | cmd | status | session | addr | func | plen | txlen | rxlen | rplen | clen | crc | exp
  | txbuf (i : Byte) | rxbuf (i : Byte) | thi (i : Byte) | tlo (i : Byte)
  | reserved
  deriving DecidableEq, Repr

/-- The registers of 0x000 to 0x0FF (R41). -/
def controlReg (i : Byte) : HostReg :=
  if i = 0x00 then .cmd
  else if i = 0x01 then .status
  else if i = 0x02 then .session
  else if i = 0x03 then .addr
  else if i = 0x04 then .func
  else if i = 0x05 then .plen
  else if i = 0x06 then .txlen
  else if i = 0x07 then .rxlen
  else if i = 0x08 then .rplen
  else if i = 0x09 then .clen
  else if i = 0x0A then .crc
  else if i = 0x0B then .exp
  else .reserved

/-- The register map (R41): bits 10:8 select the window, bits 7:0 the register or byte in it. -/
def hostReg (n : RegNum) : HostReg :=
  let page : BitVec 3 := n.extractLsb' 8 3
  let i : Byte := n.extractLsb' 0 8
  if page = 0 then controlReg i
  else if page = 1 then .txbuf i
  else if page = 2 then .rxbuf i
  else if page = 4 then .thi i
  else if page = 5 then .tlo i
  else .reserved

/-- On a byte-addressed bus the block takes bits 12:2 of the offset from its base as the register number and ignores
bits 1:0 (20_memory.md R41, R44). The base is the platform's (R46). -/
def regNumOfOffset (offset : BitVec 13) : RegNum := offset.extractLsb' 2 11

/-- The value of a register as the host reads it, zero-extended (R150). -/
def State.regWord (s : State) : HostReg → Word
  | .cmd => 0
  | .status => s.statusWord
  | .session => s.sessionWord
  | .addr => s.addr.setWidth 32
  | .func => s.func.setWidth 32
  | .plen => s.plen.setWidth 32
  | .txlen => s.txlen.setWidth 32
  | .rxlen => s.rxlen.setWidth 32
  | .rplen => s.rplen.setWidth 32
  | .clen => s.clen.setWidth 32
  | .crc => s.crc.setWidth 32
  | .exp => s.exp.setWidth 32
  | .txbuf i => (s.txByte i.toNat).setWidth 32
  | .rxbuf i => (s.rxByte i.toNat).setWidth 32
  | .thi i => (Sys2Proof.Machine.thi i).setWidth 32
  | .tlo i => (Sys2Proof.Machine.tlo i).setWidth 32
  | .reserved => 0

/-- `HostRead(n)`: the value returned; no state changes (R150). -/
def hostRead (n : RegNum) (s : State) : Word := s.regWord (hostReg n)

/-- `HostWrite` to a register: truncated to its width; ignored where the register is read-only or reserved (R153 to
R159). The write to `CMD` runs a command instead (R152) and is not here. -/
def State.writeReg (s : State) (v : Word) : HostReg → State
  | .cmd => s
  | .status => s
  | .session => s
  | .addr => s.withAddr (v.setWidth 8)
  | .func => s.withFunc (v.setWidth 8)
  | .plen => s.withPlen (v.setWidth 8)
  | .txlen => s
  | .rxlen => s.withRxlen (v.setWidth 9)
  | .rplen => s
  | .clen => s.withClen (v.setWidth 9)
  | .crc => s.withCrc (v.setWidth 16)
  | .exp => s.withExp (v.setWidth 16)
  | .txbuf i => (s.setTxByte i.toNat (v.setWidth 8)).withTxlen 0
  | .rxbuf i => s.setRxByte i.toNat (v.setWidth 8)
  | .thi _ => s
  | .tlo _ => s
  | .reserved => s

/-- `HostWrite(n, v)` for every `n` but `CMD` (R151). -/
def hostWrite (n : RegNum) (v : Word) (s : State) : State := s.writeReg v (hostReg n)

end Sys2Proof.Machine
end

