-- ==== Sys2Proof/Machine/Events.lean ====
section
/-! DEFINITION. What each event of the outside world does: host transactions, the command started by a write to `CMD`, and reset. -/

namespace Sys2Proof.Machine

/-- Decode a command word and execute it; an illegal word ends with `IllegalCommand` and changes nothing else (30_encoding.md R65 to
R67, 43_host_access.md R152). -/
def runCommand (w : Word) (s : State) : Host.Outcome State Fault Refusal :=
  match decode w with
  | .ok i => exec i s
  | .error _ => .next (complete .illegalCommand s)

/-- `HostWrite(n, v)` (R151 to R159). -/
def runWrite (n : RegNum) (v : Word) (s : State) : Host.Outcome State Fault Refusal :=
  if hostReg n = .cmd then runCommand v s else .next (hostWrite n v s)

/-- `HostRead(n)`: the block is unchanged and the value goes to the host (R150, log 5). -/
def runRead (n : RegNum) (s : State) : Host.Outcome State Fault Refusal :=
  .next (s.withReads (hostRead n s :: s.hostReads))

/-- Reset while the command of word `w` is running (70_reset_and_hazards.md R230, log 6). -/
def runResetDuring (w : Word) (calls : Nat) (s : State) : Host.Outcome State Fault Refusal :=
  match runCommand w s with
  | .next t => .next (abandon calls s t)
  | .fault r => .fault r
  | .refused r => .refused r

/-- One event, to completion (20_memory.md R53). -/
def runEvent (e : Event) (s : State) : Host.Outcome State Fault Refusal :=
  match e with
  | .read n => runRead n s
  | .write n v => runWrite n v s
  | .reset => .next (resetBlock s)
  | .resetDuring w calls => runResetDuring w calls s

/-- The event that a word of opcode_table.json stands for: the host writes it to `CMD` (R152, log 9). -/
def commandEvent (nbits w : Nat) : Event := .write 0x000 (BitVec.ofNat 32 (w % 2 ^ nbits))

/-- Take the next event and run it; where the outside world does nothing, neither does the block (log 1). -/
def stepEvents (s : State) : Host.Outcome State Fault Refusal :=
  match s.events with
  | [] => .next s
  | e :: es => runEvent e (s.withEvents es)

end Sys2Proof.Machine
end

