-- ==== Sys2Proof/Machine/Step.lean ====
section
/-! DEFINITION. One step: one event of the outside world, to completion. -/

namespace Sys2Proof.Machine

/-- One step (00_scope.md R9, 20_memory.md R53): the next event, as an indivisible step. -/
def step (s : State) : Host.Outcome State Fault Refusal := stepEvents s

/-- The state in which the very next event is the host's write of the word to `CMD`; nothing else changes (log 9). -/
def State.withFetchWord (s : State) (nbits w : Nat) : State := s.withEvents (commandEvent nbits w :: s.events)

end Sys2Proof.Machine
end

