-- ==== Sys2Proof/Machine/Script.lean ====
section
/-! DEFINITION. The pseudo-commands of the script notation, as the lists of host transactions they stand for (30_encoding.md R70, R71). -/

namespace Sys2Proof.Machine

/-- `cmd MNEMONIC` (R70). -/
def scriptCmd (i : Instr) : Event := .write 0x000 (encode i)

/-- Writes of bytes to consecutive register numbers, from `n` upward. -/
def scriptBytes : Nat → List Byte → List Event
  | _, [] => []
  | n, b :: bs => .write (BitVec.ofNat 11 n) (b.setWidth 32) :: scriptBytes (n + 1) bs

/-- `payload b0 b1 ...` (R71): the bytes at `TXBUF[2 ..]`, then `PLEN`. -/
def scriptPayload (p : List Byte) : List Event :=
  scriptBytes (0x100 + 2) p ++ [.write 0x005 (BitVec.ofNat 32 p.length)]

/-- `raw b0 b1 ...` (R71): the bytes at `RXBUF[0 ..]`, then `RXLEN`. -/
def scriptRaw (r : List Byte) : List Event :=
  scriptBytes 0x200 r ++ [.write 0x007 (BitVec.ofNat 32 r.length)]

/-- `crcbytes b0 b1 ...` (R71). -/
def scriptCrcBytes (bs : List Byte) : List Event :=
  scriptCmd .crcInit :: bs.map fun b => scriptCmd (.crcByte b)

/-- `request f, b0 b1 ...` up to the first `rd STATUS` (R71). -/
def scriptRequest (f : Byte) (p : List Byte) : List Event :=
  scriptPayload p ++ [.write 0x004 (f.setWidth 32), scriptCmd .send, .read 0x001]

/-- The rest of a `request`, which the host issues only if `CODE = OK` (R71). -/
def scriptRequestReply (s : State) : List Event :=
  if s.code = .ok then [scriptCmd .recv, .read 0x001] else []

end Sys2Proof.Machine
end

