-- ==== Sys2Proof/Safety.lean ====
section
/-! DEFINITION. The terms claims are made in: what a command changes and leaves unchanged as the host sees it, the invariants of 10_state.md
R24, and the runs from reset. -/

namespace Sys2Proof.Machine

/-! ### Register values as the host reads them (43_host_access.md R150) -/

/-- A byte register. -/
def byteWord (b : Byte) : Word := b.setWidth 32

/-- A length register. -/
def lenWord (n : Nat) : Word := BitVec.ofNat 32 n

/-- `lo OR (hi << 8)`. -/
def crcWord (c : Byte × Byte) : Word := c.1.setWidth 32 ||| (c.2.setWidth 32 <<< 8)

/-- `CODE OR (MATCH << 4)`. -/
def statusValue (k : StatusCode) (m : Bool) : Word := k.num.setWidth 32 ||| (bitWord m <<< 4)

/-- `SESSION` in Disconnected (42_session.md R129). -/
def sessionDisconnected : Word := 0

/-- `SESSION` in Idle at address `a`: `(a << 8) OR 1` (R129). -/
def sessionIdle (a : Byte) : Word := (a.setWidth 32 <<< 8) ||| 1

/-- `SESSION` in Awaiting function `f` at address `a`: `(f << 16) OR (a << 8) OR 3` (R129). -/
def sessionAwaiting (a f : Byte) : Word := (f.setWidth 32 <<< 16) ||| (a.setWidth 32 <<< 8) ||| 3

/-! ### Effect and frame -/

/-- The outside world's side of the state is unchanged: what it will do next, what it has read, and how many resets there have been. -/
def sameWorld (s t : State) : Prop :=
  t.events = s.events ∧ t.hostReads = s.hostReads ∧ t.epoch = s.epoch

/-- Exactly these transport transactions were issued, in this order, and each used up one answer. -/
def issuedExactly (calls : List TpCall) (s t : State) : Prop :=
  t.tpCalls = calls.reverse ++ s.tpCalls ∧ t.tpReplies = s.tpReplies.drop calls.length

/-- Every register and buffer byte but those named reads as before. -/
def readsAsBefore (changed : HostReg → Prop) (s t : State) : Prop :=
  ∀ r, ¬ changed r → t.regWord r = s.regWord r

/-- A command that ends with code `k` and `MATCH = m`, may change only the registers and buffer bytes named besides
`STATUS`, and issues exactly these transport transactions. -/
def endsWith (k : StatusCode) (m : Bool) (changed : HostReg → Prop) (calls : List TpCall) (s t : State) : Prop :=
  t.regWord .status = statusValue k m ∧
  readsAsBefore (fun r => r = .status ∨ changed r) s t ∧
  issuedExactly calls s t ∧ sameWorld s t

/-- A host write that may change only the registers and buffer bytes named: `STATUS` is unchanged and the transport untouched. -/
def writesOnly (changed : HostReg → Prop) (s t : State) : Prop :=
  readsAsBefore changed s t ∧ issuedExactly [] s t ∧ sameWorld s t

/-- No register and no buffer byte. -/
def noReg : HostReg → Prop := fun _ => False

/-- Byte `i` of `TXBUF`, for an `i` that `p` names. -/
def txIndex (p : Nat → Prop) : HostReg → Prop := fun r => ∃ i, r = .txbuf i ∧ p i.toNat

/-- Byte `i` of `RXBUF`, for an `i` that `p` names. -/
def rxIndex (p : Nat → Prop) : HostReg → Prop := fun r => ∃ i, r = .rxbuf i ∧ p i.toNat

/-- The four `TXBUF` bytes a frame around a payload of `len` bytes writes: header and CRC (41_codec.md R102). -/
def frameBytes (len : Nat) : HostReg → Prop :=
  txIndex fun i => i = 0 ∨ i = 1 ∨ i = 2 + len ∨ i = 3 + len

/-- The frame on the wire: address, function, payload, and the CRC of the three, low byte first (30_encoding.md R60, R63). -/
def wireFrame (a f : Byte) (p : List Byte) : List Byte :=
  [a, f] ++ p ++ [(crc16 ([a, f] ++ p)).1, (crc16 ([a, f] ++ p)).2]

/-- The registers each command may change: the "written by" column of 10_state.md R11, with `STATUS` (R14) and `SESSION` (R15). The bytes
of the buffers are in `storesTo`. -/
def commandWrites : Instr → HostReg → Prop
  | .crcInit => fun r => r = .status ∨ r = .crc
  | .crcByte _ => fun r => r = .status ∨ r = .crc
  | .crcTx => fun r => r = .status ∨ r = .crc
  | .crcRx => fun r => r = .status ∨ r = .crc
  | .vfyTx => fun r => r = .status
  | .vfyRx => fun r => r = .status
  | .enc => fun r => r = .status ∨ r = .txlen
  | .dec => fun r => r = .status ∨ r = .rplen
  | .connect _ => fun r => r = .status ∨ r = .session ∨ r = .txlen ∨ r = .rxlen ∨ r = .rplen
  | .send => fun r => r = .status ∨ r = .session ∨ r = .txlen
  | .recv => fun r => r = .status ∨ r = .session ∨ r = .rxlen ∨ r = .rplen
  | .disconnect => fun r => r = .status ∨ r = .session

/-- The `RXBUF` bytes a read stores to: one for each byte it returned, and none where it failed (10_state.md R20). -/
def replyBytes (answer : Option (List Byte)) : HostReg → Prop := fun r =>
  ∃ bs, answer = some bs ∧ rxIndex (fun i => i < bs.length) r

/-- The buffer bytes command `i` stores to when it runs in state `s`, by the answers the transport is about to give (10_state.md R19, R20; the
"Writes" lines of R102, R123, R124, R125): the four frame bytes around the payload, the bytes of the reply, and none on
a path that ends before the frame is built or the reply read. -/
def storesTo : Instr → State → HostReg → Prop
  | .crcInit, _ => noReg
  | .crcByte _, _ => noReg
  | .crcTx, _ => noReg
  | .crcRx, _ => noReg
  | .vfyTx, _ => noReg
  | .vfyRx, _ => noReg
  | .enc, s => fun r => s.requestRefused = false ∧ frameBytes s.plen.toNat r
  | .dec, _ => noReg
  | .connect _, s => fun r => s.connected = false ∧ (s.replyAt 0).accepted = true ∧
      (frameBytes 0 r ∨ (s.replyAt 1).written 4 = some 4 ∧ replyBytes ((s.replyAt 2).received 256) r)
  | .send, s => fun r => s.connected = true ∧ s.pending = false ∧ s.requestRefused = false ∧ frameBytes s.plen.toNat r
  | .recv, s => fun r => s.pending = true ∧ replyBytes ((s.replyAt 0).received 256) r
  | .disconnect, _ => noReg

/-- The codes each command can end with: the table of 60_exceptions.md R201. -/
def endingCodes : Instr → List StatusCode
  | .crcInit => [.ok]
  | .crcByte _ => [.ok]
  | .crcTx => [.ok, .invalidArgument]
  | .crcRx => [.ok, .invalidArgument]
  | .vfyTx => [.ok, .invalidArgument]
  | .vfyRx => [.ok, .invalidArgument]
  | .enc => [.ok, .invalidArgument]
  | .dec => [.ok, .invalidArgument, .timeout, .badCrc, .protocolError]
  | .connect _ => [.ok, .timeout, .badCrc, .protocolError, .transportError, .illegalState]
  | .send => [.ok, .invalidArgument, .transportError, .illegalState]
  | .recv => [.ok, .timeout, .badCrc, .protocolError, .transportError, .illegalState]
  | .disconnect => [.ok, .transportError]

/-- The commands that write `CRC` (10_state.md R12). -/
def writesCrc : Instr → Bool
  | .crcInit => true
  | .crcByte _ => true
  | .crcTx => true
  | .crcRx => true
  | .vfyTx => false
  | .vfyRx => false
  | .enc => false
  | .dec => false
  | .connect _ => false
  | .send => false
  | .recv => false
  | .disconnect => false

/-! ### The session states (10_state.md R16) -/

/-- Disconnected. -/
def State.isDisconnected (s : State) : Prop := s.connected = false ∧ s.pending = false

/-- Idle. -/
def State.isIdle (s : State) : Prop := s.connected = true ∧ s.pending = false

/-- Awaiting. -/
def State.isAwaiting (s : State) : Prop := s.connected = true ∧ s.pending = true

/-- A command of the session unit (42_session.md). -/
def isSessionCommand (i : Instr) : Bool :=
  match i with
  | .crcInit => false
  | .crcByte _ => false
  | .crcTx => false
  | .crcRx => false
  | .vfyTx => false
  | .vfyRx => false
  | .enc => false
  | .dec => false
  | .connect _ => true
  | .send => true
  | .recv => true
  | .disconnect => true

/-! ### The invariants of R24 -/

/-- R24 (b): `TXLEN = 0`, or `TXBUF[0 .. TXLEN]` is a frame with a good CRC. -/
def frameIntact (s : State) : Prop :=
  s.txlen.toNat = 0 ∨
  (4 ≤ s.txlen.toNat ∧ s.txlen.toNat ≤ 256 ∧ 1 ≤ (s.txByte 1).toNat ∧ (s.txByte 1).toNat ≤ 127 ∧
    crc16 (s.txSlice 0 (s.txlen.toNat - 2)) = (s.txByte (s.txlen.toNat - 2), s.txByte (s.txlen.toNat - 1)))

/-- R24 (a) to (e), clause by clause. -/
structure BlockInv (s : State) : Prop where
  pendingConnected : s.pending = true → s.connected = true
  frame : frameIntact s
  replyLength : s.rplen.toNat ≤ 252
  addressCleared : s.connected = false → s.devaddr = 0
  functionCleared : s.pending = false → s.pendfunc = 0
  functionLegal : s.pending = true → 1 ≤ s.pendfunc.toNat ∧ s.pendfunc.toNat ≤ 127
  codeLegal : s.code.num.toNat ≤ 7

/-- Both buffers have the canonical form, so equal buffers are equal data (log 4). -/
def buffersCanonical (s : State) : Prop := s.txbuf.wf = true ∧ s.rxbuf.wf = true

/-- The machine after reset, in any outside world: any events, any transport answers and any values in the unwritten buffer
bytes (R24: "any sequence of host transactions and any transport answers"). -/
def resetInWorld (es : List Event) (rs : List Reply) (epoch : Nat) : State :=
  { State.reset with events := es, tpReplies := rs, epoch := epoch }

/-! ### Sequences of commands, and errors on the line -/

/-- Commands one after another, stopping at the first that does not end in a next state. -/
def execAll : List Instr → State → Host.Outcome State Fault Refusal
  | [], s => .next s
  | i :: is, s =>
    match exec i s with
    | .next t => execAll is t
    | .fault r => .fault r
    | .refused r => .refused r

/-- A byte sequence with bit `k % 8` of byte `k / 8` flipped (40_crc.md R94). -/
def flipBit (s : List Byte) (k : Nat) : List Byte :=
  s.modify (k / 8) fun b => b ^^^ ((1 : Byte) <<< (k % 8))

/-- Bytewise XOR of two sequences (40_crc.md R93). -/
def xorBytes (x e : List Byte) : List Byte := List.zipWith (fun a b => a ^^^ b) x e

end Sys2Proof.Machine
end

