-- ==== Sys2Proof/Certificates/Slice0/Obligations.lean ====
section
/-! DEFINITION. The statements for the provers. "R<n>" is the numbered rule of spec/ a statement formalises. -/

open Sys2Proof Sys2Proof.Machine

/-! ### Encoding (30_encoding.md) -/

/-- Every command survives the round trip through its word (R65, R66). -/
def Obligations.DecodeInvertsEncode : Prop :=
  ∀ i : Instr, i.wellFormed = true → decode (encode i) = .ok i

/-- A word that names a command is that command's word and no other (R65, R67). -/
def Obligations.EncodeInvertsDecode : Prop :=
  ∀ (w : Word) (i : Instr), decode w = .ok i → encode i = w

/-- R66: a word is a command exactly when the command's row of the opcode table selects it, `arg` being the word's;
the masks; and every `op` at 0x80 or above. -/
def Obligations.OpcodeTableSelectsTheDecodedCommand : Prop :=
  (∀ (w : Word) (i : Instr), decode w = .ok i ↔
    argOf i = argField w ∧ ∃ r ∈ opcodeRows, r.mnemonic = mnemonicOf i ∧ r.selectedBy w = true) ∧
  (∀ r ∈ opcodeRows, r.maskBits = if r.mnemonic = "CRC.BYTE" ∨ r.mnemonic = "CONNECT" then 0xFFFF00FF else 0xFFFFFFFF) ∧
  (∀ r ∈ opcodeRows, 0x80 ≤ r.matchBits.toNat ∧ r.matchBits.toNat < 0x100)

/-- R67: a word with an unknown `op`, nonzero bits 31:16, or a nonzero `arg` where none is taken, is no command; written
to `CMD` it ends with `IllegalCommand` and nothing else changes; every other word is a command. -/
def Obligations.IllegalWordChangesOnlyTheCode : Prop :=
  (∀ (w : Word) (s : State) (es : List Event), wordWellFormed w = false → s.events = .write 0x000 w :: es →
    ∃ t, step s = .next t ∧ endsWith .illegalCommand s.matched noReg [] (s.withEvents es) t) ∧
  (∀ w : Word, wordWellFormed w = true → ∃ i, decode w = .ok i)

/-- Words written out from the bit fields of R65 and the operation codes of R66: three of the CRC unit, both of the codec, all four of the
session unit; and one word that names no command. -/
def Obligations.WrittenWordsDecode : Prop :=
  decode 0b00000000_00000000_00000000_10000000 = .ok .crcInit ∧
  decode 0b00000000_00000000_11111111_10000001 = .ok (.crcByte 0xFF) ∧
  decode 0b00000000_00000000_00000000_10000101 = .ok .vfyRx ∧
  decode 0b00000000_00000000_00000000_10100000 = .ok .enc ∧
  decode 0b00000000_00000000_00000000_10100001 = .ok .dec ∧
  decode 0b00000000_00000000_00000111_11000000 = .ok (.connect 0x07) ∧
  decode 0b00000000_00000000_00000000_11000001 = .ok .send ∧
  decode 0b00000000_00000000_00000000_11000010 = .ok .recv ∧
  decode 0b00000000_00000000_00000000_11000011 = .ok .disconnect ∧
  decode 0b00000000_00000000_00000001_10000000 = .error .nonzeroArg

/-! ### Steps and host access (43_host_access.md) -/

/-- R152: a write to `CMD` decodes the word and executes it to completion, in one step. -/
def Obligations.StepRunsTheDecodedCommand : Prop :=
  ∀ (s : State) (w : Word) (es : List Event), s.events = .write 0x000 w :: es →
    (∀ i, decode w = .ok i → step s = exec i (s.withEvents es)) ∧
    (∀ c, decode w = .error c → step s = .next (complete .illegalCommand (s.withEvents es)))

/-- No host transaction, command or reset stops the model: a read or write never fails (R150, R151), an error leaves
the block ready (60_exceptions.md R202). The statement is the model's, not a rule's: that nothing stops the machine is read from the spec
by inference (log 10); that a session command ends rests on every transport transaction being answered (log 2), where R130
and 70_reset_and_hazards.md R236 say so only of a transport that answers, and the log calls it unsafe for one that hangs; and the step with no event left is the
model's choice (log 1). -/
def Obligations.EveryStepCompletes : Prop :=
  ∀ s : State, ∃ t, step s = .next t

/-- R150: `HostRead(n)` returns the value of the register, zero-extended, and changes no state of the block. -/
def Obligations.HostReadReturnsTheRegister : Prop :=
  (∀ (s : State) (n : RegNum) (es : List Event), s.events = .read n :: es →
    step s = .next ((s.withEvents es).withReads (hostRead n s :: s.hostReads))) ∧
  (∀ s : State,
    hostRead 0x000 s = 0 ∧
    hostRead 0x001 s = s.code.num.setWidth 32 ||| (bitWord s.matched <<< 4) ∧
    hostRead 0x002 s = bitWord s.connected ||| (bitWord s.pending <<< 1) ||| (s.devaddr.setWidth 32 <<< 8) |||
      (s.pendfunc.setWidth 32 <<< 16) ∧
    hostRead 0x003 s = s.addr.setWidth 32 ∧
    hostRead 0x004 s = s.func.setWidth 32 ∧
    hostRead 0x005 s = s.plen.setWidth 32 ∧
    hostRead 0x006 s = s.txlen.setWidth 32 ∧
    hostRead 0x007 s = s.rxlen.setWidth 32 ∧
    hostRead 0x008 s = s.rplen.setWidth 32 ∧
    hostRead 0x009 s = s.clen.setWidth 32 ∧
    hostRead 0x00A s = crcWord (loByte s.crc, hiByte s.crc) ∧
    hostRead 0x00B s = crcWord (loByte s.exp, hiByte s.exp)) ∧
  (∀ (s : State) (i : Byte),
    hostRead (0x100 + i.setWidth 11) s = (s.txByte i.toNat).setWidth 32 ∧
    hostRead (0x200 + i.setWidth 11) s = (s.rxByte i.toNat).setWidth 32 ∧
    hostRead (0x400 + i.setWidth 11) s = (thi i).setWidth 32 ∧
    hostRead (0x500 + i.setWidth 11) s = (tlo i).setWidth 32) ∧
  (∀ (s : State) (n : RegNum),
    (0x00C ≤ n.toNat ∧ n.toNat ≤ 0x0FF) ∨ (0x300 ≤ n.toNat ∧ n.toNat ≤ 0x3FF) ∨ 0x600 ≤ n.toNat →
    hostRead n s = 0)

/-- R154: `ADDR`, `FUNC` and `PLEN` take bits 7:0; nothing else changes, `TXLEN` included; illegal values are refused by the
commands that use them. -/
def Obligations.ByteRegistersTakeTheLowByte : Prop :=
  ∀ (s : State) (v : Word) (es : List Event),
    (s.events = .write 0x003 v :: es → ∃ t, step s = .next t ∧ t.regWord .addr = byteWord (v.extractLsb' 0 8) ∧
      writesOnly (fun r => r = .addr) (s.withEvents es) t) ∧
    (s.events = .write 0x004 v :: es → ∃ t, step s = .next t ∧ t.regWord .func = byteWord (v.extractLsb' 0 8) ∧
      writesOnly (fun r => r = .func) (s.withEvents es) t) ∧
    (s.events = .write 0x005 v :: es → ∃ t, step s = .next t ∧ t.regWord .plen = byteWord (v.extractLsb' 0 8) ∧
      writesOnly (fun r => r = .plen) (s.withEvents es) t) ∧
    -- no check when written: an illegal `FUNC` or `PLEN` is refused when used
    (s.func.toNat = 0 ∨ 127 < s.func.toNat ∨ 252 < s.plen.toNat →
      (∃ t, exec .enc s = .next t ∧ t.code = .invalidArgument) ∧
      (s.isIdle → ∃ t, exec .send s = .next t ∧ t.code = .invalidArgument))

/-- R155: `RXLEN` and `CLEN` take bits 8:0; nothing else changes; a length above 256 is refused by the commands that use it. -/
def Obligations.LengthRegistersTakeNineBits : Prop :=
  ∀ (s : State) (v : Word) (es : List Event),
    (s.events = .write 0x007 v :: es → ∃ t, step s = .next t ∧ t.regWord .rxlen = lenWord (v.toNat % 512) ∧
      writesOnly (fun r => r = .rxlen) (s.withEvents es) t) ∧
    (s.events = .write 0x009 v :: es → ∃ t, step s = .next t ∧ t.regWord .clen = lenWord (v.toNat % 512) ∧
      writesOnly (fun r => r = .clen) (s.withEvents es) t) ∧
    -- the values 257..511 are stored, and refused when used
    (256 < s.clen.toNat → ∀ i ∈ [Instr.crcTx, .crcRx, .vfyTx, .vfyRx],
      ∃ t, exec i s = .next t ∧ t.code = .invalidArgument) ∧
    (256 < s.rxlen.toNat → ∃ t, exec .dec s = .next t ∧ t.code = .invalidArgument)

/-- R156: `CRC` and `EXP` take `LO` from bits 7:0 and `HI` from bits 15:8; nothing else changes. -/
def Obligations.CrcRegistersTakeSixteenBits : Prop :=
  ∀ (s : State) (v : Word) (es : List Event),
    (s.events = .write 0x00A v :: es → ∃ t, step s = .next t ∧
      loByte t.crc = v.extractLsb' 0 8 ∧ hiByte t.crc = v.extractLsb' 8 8 ∧
      writesOnly (fun r => r = .crc) (s.withEvents es) t) ∧
    (s.events = .write 0x00B v :: es → ∃ t, step s = .next t ∧
      loByte t.exp = v.extractLsb' 0 8 ∧ hiByte t.exp = v.extractLsb' 8 8 ∧
      writesOnly (fun r => r = .exp) (s.withEvents es) t)

/-- R153: a write to `STATUS`, `SESSION`, `TXLEN`, `RPLEN`, a table entry or a reserved number has no effect. -/
def Obligations.ReadOnlyAndReservedWritesAreIgnored : Prop :=
  ∀ (s : State) (n : RegNum) (v : Word) (es : List Event), s.events = .write n v :: es →
    n = 0x001 ∨ n = 0x002 ∨ n = 0x006 ∨ n = 0x008 ∨ (0x400 ≤ n.toNat ∧ n.toNat ≤ 0x5FF) ∨
      (0x00C ≤ n.toNat ∧ n.toNat ≤ 0x0FF) ∨ (0x300 ≤ n.toNat ∧ n.toNat ≤ 0x3FF) ∨ 0x600 ≤ n.toNat →
    step s = .next (s.withEvents es)

/-- R158: a host write to any `TXBUF` byte stores bits 7:0 and clears `TXLEN`, and does nothing else. -/
def Obligations.TxbufWriteClearsTxlen : Prop :=
  ∀ (s : State) (i : Byte) (v : Word) (es : List Event), s.events = .write (0x100 + i.setWidth 11) v :: es →
    ∃ t, step s = .next t ∧ t.regWord (.txbuf i) = byteWord (v.extractLsb' 0 8) ∧ t.regWord .txlen = 0 ∧
      writesOnly (fun r => r = .txbuf i ∨ r = .txlen) (s.withEvents es) t

/-- R159: a host write to an `RXBUF` byte stores bits 7:0 and does nothing else. -/
def Obligations.RxbufWriteChangesOneByte : Prop :=
  ∀ (s : State) (i : Byte) (v : Word) (es : List Event), s.events = .write (0x200 + i.setWidth 11) v :: es →
    ∃ t, step s = .next t ∧ t.regWord (.rxbuf i) = byteWord (v.extractLsb' 0 8) ∧
      writesOnly (fun r => r = .rxbuf i) (s.withEvents es) t

/-! ### The status register (10_state.md R14) -/

/-- R14: `CODE` is one of 0..7 in bits 3:0, `MATCH` is bit 4, the rest 0; only `VFY.TX` and `VFY.RX` write `MATCH`; a host read, and a host
write to another register than `CMD`, change neither; no command's behaviour depends on them; after reset both are 0. -/
def Obligations.StatusIsWrittenByCommandsAndReadByNone : Prop :=
  (∀ s : State, (s.regWord .status).toNat < 32 ∧ (s.regWord .status).toNat % 16 ≤ 7 ∧
    ((s.regWord .status).getLsbD 4 = s.matched)) ∧
  (∀ (i : Instr) (s t : State), exec i s = .next t → i ≠ .vfyTx → i ≠ .vfyRx → t.matched = s.matched) ∧
  (∀ (s t : State) (n : RegNum) (v : Word) (es : List Event), step s = .next t →
    s.events = .read n :: es ∨ (s.events = .write n v :: es ∧ n ≠ 0x000) → t.regWord .status = s.regWord .status) ∧
  (∀ (i : Instr) (s t : State) (k : StatusCode) (m : Bool), exec i s = .next t →
    exec i ((s.withCode k).withMatch m) = .next (if i = .vfyTx ∨ i = .vfyRx then t else t.withMatch m)) ∧
  State.reset.regWord .status = 0

/-- R200: the number of each of the eight kinds, in `STATUS` bits 3:0; no two kinds share a number. -/
def Obligations.StatusCodesHaveTheirNumbers : Prop :=
  (([.ok, .invalidArgument, .timeout, .badCrc, .protocolError, .transportError, .illegalState, .illegalCommand] : List
    StatusCode).map StatusCode.num = [0, 1, 2, 3, 4, 5, 6, 7]) ∧
  (∀ k j : StatusCode, k.num = j.num → k = j) ∧
  (∀ (s : State) (k : StatusCode), ((complete k s).regWord .status).toNat % 16 = k.num.toNat)

/-! ### Reset (10_state.md R25, 70_reset_and_hazards.md) -/

/-- R25: what `State.reset` holds, register by register; every buffer byte is a free value (log 3). -/
def Obligations.ResetStateHoldsTheStatedValues : Prop :=
  State.reset.regWord .addr = 0 ∧ State.reset.regWord .func = 0 ∧ State.reset.regWord .plen = 0 ∧
  State.reset.regWord .clen = 0 ∧ State.reset.regWord .rxlen = 0 ∧ State.reset.regWord .exp = 0 ∧
  State.reset.regWord .crc = 0xFFFF ∧ State.reset.regWord .txlen = 0 ∧ State.reset.regWord .rplen = 0 ∧
  State.reset.regWord .status = 0 ∧ State.reset.regWord .session = sessionDisconnected ∧
  (∀ i, State.reset.txByte i = Config.txResetByte 0 i ∧ State.reset.rxByte i = Config.rxResetByte 0 i) ∧
  State.reset.tpCalls = []

/-- R25, R230, R231: a reset, from any state, leaves every register at its reset value and every buffer byte at a free value of a new
epoch, and issues no transport transaction. The epoch is the model's (log 3). -/
def Obligations.ResetEventRestoresEveryRegister : Prop :=
  ∀ (s : State) (es : List Event), s.events = .reset :: es →
    ∃ t, step s = .next t ∧
      (∀ r, (∀ i, r ≠ .txbuf i) → (∀ i, r ≠ .rxbuf i) → t.regWord r = State.reset.regWord r) ∧
      (∀ i, t.txByte i = Config.txResetByte (s.epoch + 1) i ∧ t.rxByte i = Config.rxResetByte (s.epoch + 1) i) ∧
      issuedExactly [] s t ∧ t.events = es ∧ t.hostReads = s.hostReads

/-- R230: reset while a command is running leaves the block as any reset does, whatever the command had done; of the
transport transactions the command would have issued, only the first `calls` were, and they alone used up answers; every buffer byte is a
free value of a new epoch. How the event is said, and that a transaction cut off counts as answered, is the model's (log 6); the epoch too (log 3). -/
def Obligations.ResetDuringACommandAbandonsIt : Prop :=
  ∀ (s : State) (w : Word) (calls : Nat) (es : List Event), s.events = .resetDuring w calls :: es →
    ∃ t whole, step s = .next t ∧ runCommand w (s.withEvents es) = .next whole ∧
      (∀ r, (∀ i, r ≠ .txbuf i) → (∀ i, r ≠ .rxbuf i) → t.regWord r = State.reset.regWord r) ∧
      t.tpCalls <:+ whole.tpCalls ∧ s.tpCalls <:+ t.tpCalls ∧
      t.tpCalls.length = min (s.tpCalls.length + calls) whole.tpCalls.length ∧
      t.tpReplies = s.tpReplies.drop (t.tpCalls.length - s.tpCalls.length) ∧
      (∀ i, t.txByte i = Config.txResetByte (s.epoch + 1) i ∧ t.rxByte i = Config.rxResetByte (s.epoch + 1) i) ∧
      t.events = es ∧ t.hostReads = s.hostReads

/-! ### Invariants (10_state.md R24) -/

/-- The reset state satisfies the invariants of R24 and the canonical form (the model's, log 4), in every outside world. -/
def Obligations.ResetSatisfiesTheInvariants : Prop :=
  ∀ (es : List Event) (rs : List Reply) (epoch : Nat),
    BlockInv (resetInWorld es rs epoch) ∧ buffersCanonical (resetInWorld es rs epoch)

/-- Every step keeps the invariants of 10_state.md R24 (marked derived there), from every state that has them. -/
def Obligations.StepKeepsTheBlockInvariants : Prop :=
  ∀ s t : State, BlockInv s → step s = .next t → BlockInv t

/-- Every step keeps both buffers in canonical form: no byte is ever written outside indexes 0..255
(70_reset_and_hazards.md R239), and equal buffers are equal data (log 4). -/
def Obligations.StepKeepsTheBuffersCanonical : Prop :=
  ∀ s t : State, buffersCanonical s → step s = .next t → buffersCanonical t

/-- The five clauses of 10_state.md R24, which the spec marks as its own derivation, hold in every state reachable from reset by any
events and any transport answers. -/
def Obligations.ReachableStatesSatisfyTheInvariants : Prop :=
  ∀ (es : List Event) (rs : List Reply) (epoch k : Nat) (t : State),
    core.run k (resetInWorld es rs epoch) = .next t → BlockInv t

/-- 42_session.md R129, marked derived: from reset, `SESSION` only ever holds 0, `(a << 8) OR 1`, or `(f << 16) OR (a << 8) OR 3` with `1 <= f <= 127`. -/
def Obligations.ReachableSessionValues : Prop :=
  ∀ (es : List Event) (rs : List Reply) (epoch k : Nat) (t : State),
    core.run k (resetInWorld es rs epoch) = .next t →
    (t.regWord .session = sessionDisconnected ∨ (∃ a, t.regWord .session = sessionIdle a) ∨
      ∃ a f : Byte, 1 ≤ f.toNat ∧ f.toNat ≤ 127 ∧ t.regWord .session = sessionAwaiting a f) ∧
    ¬ (t.connected = false ∧ t.pending = true)

/-! ### The CRC unit (40_crc.md) -/

/-- R81, R84: the step, the seed, and the bytes taken in ascending order. -/
def Obligations.CrcIsTheStepFromTheSeed : Prop :=
  (∀ lo hi b : Byte, crcStep (lo, hi) b = (hi ^^^ thi (lo ^^^ b), tlo (lo ^^^ b))) ∧
  crc16 [] = (0xFF, 0xFF) ∧
  (∀ (s : List Byte) (b : Byte), crc16 (s ++ [b]) = crcStep (crc16 s) b)

/-- R82, R83, marked derived: `THI[i]` is the low byte and `TLO[i]` the high byte of the bitwise table entry `T[i]`; only eight values occur in `THI`,
in groups of four of two kinds. -/
def Obligations.CrcTablesAreTheBitwiseTable : Prop :=
  (∀ i : Byte, thi i = loByte (crcTableWord i) ∧ tlo i = hiByte (crcTableWord i)) ∧
  (∀ i : Byte, thi i ∈ ([0x00, 0x01, 0x40, 0x41, 0x80, 0x81, 0xC0, 0xC1] : List Byte)) ∧
  (∀ g : BitVec 6, [thi (4 * g.setWidth 8), thi (4 * g.setWidth 8 + 1), thi (4 * g.setWidth 8 + 2), thi (4 * g.setWidth 8 + 3)] ∈
    ([[0x00, 0xC1, 0x81, 0x40], [0x01, 0xC0, 0x80, 0x41]] : List (List Byte)))

/-- R85, from general knowledge by its own mark: the table-driven CRC is the bitwise Modbus CRC16 on every byte sequence; the two tables, and no other pair, make the step
agree with the bitwise one; eight shifts as one table look-up; and the two entries the rule names. -/
def Obligations.CrcIsTheBitwiseModbusCrc : Prop :=
  (∀ s : List Byte, packCrc (crc16 s) = crcBitwise s) ∧
  (∀ th tl : Byte → Byte,
    (∀ lo hi b : Byte, packCrc (hi ^^^ th (lo ^^^ b), tl (lo ^^^ b)) = crcBitwiseStep (packCrc (lo, hi)) b) ↔
    th = thi ∧ tl = tlo) ∧
  (∀ c b, crcBitwiseStep c b = (c >>> 8) ^^^ crcTableWord (loByte (c ^^^ b.setWidth 16))) ∧
  crcTableWord 1 = 0xC0C1 ∧ crcTableWord 255 = 0x4040

/-- R93, derived and from general knowledge by its own marks: the empty sequence, the residue and the decoder built on it, and linearity with the zero-seed CRC. -/
def Obligations.CrcLaws : Prop :=
  crc16 [] = (0xFF, 0xFF) ∧
  (∀ m : List Byte, crc16 (m ++ [(crc16 m).1, (crc16 m).2]) = (0x00, 0x00)) ∧
  (∀ (m : List Byte) (lo hi : Byte), crc16 (m ++ [lo, hi]) = (0x00, 0x00) ↔ verify m lo hi = true) ∧
  (∀ x e : List Byte, x.length = e.length →
    crc16 (xorBytes x e) = ((crc16 x).1 ^^^ (crcFrom (0, 0) e).1, (crc16 x).2 ^^^ (crcFrom (0, 0) e).2))

/-- R94: any one flipped bit of a built frame makes it decode as `BadCrc`: never a payload, never `ProtocolError`. -/
def Obligations.SingleBitFlipIsBadCrc : Prop :=
  ∀ (a f : Byte) (p F : List Byte) (k : Nat), frameEncode a f p = .ok F → k < 8 * F.length →
    frameDecode (flipBit F k) a f = .error .badCrc

/-- R87: `CRC.INIT` loads the seed and ends `OK`, in every state; nothing else changes. -/
def Obligations.CrcInitLoadsTheSeed : Prop :=
  decode 0x00000080 = .ok .crcInit ∧
  ∀ s : State, ∃ t, exec .crcInit s = .next t ∧ t.regWord .crc = 0x0000FFFF ∧
    endsWith .ok s.matched (fun r => r = .crc) [] s t

/-- R88: `CRC.BYTE b` is one CRC step from whatever `CRC` holds; the rule's example; and, by the sentence that R88 marks "[derived: from
rule R84]", after `CRC.INIT` one `CRC.BYTE` per byte computes `crc16`. -/
def Obligations.CrcByteIsOneStep : Prop :=
  (∀ b : Byte, decode ((b.setWidth 32 <<< 8) ||| 0x81) = .ok (.crcByte b)) ∧
  (∀ (b : Byte) (s : State), ∃ t, exec (.crcByte b) s = .next t ∧
    t.regWord .crc = crcWord (crcStep (loByte s.crc, hiByte s.crc) b) ∧
    endsWith .ok s.matched (fun r => r = .crc) [] s t) ∧
  (∀ (bs : List Byte) (s : State), ∃ t, execAll (.crcInit :: bs.map .crcByte) s = .next t ∧
    t.regWord .crc = crcWord (crc16 bs) ∧ endsWith .ok s.matched (fun r => r = .crc) [] s t) ∧
  crcStep (0xFF, 0xFF) 0x01 = (0x7E, 0x80)

/-- R89: `CRC.TX` computes the CRC of `TXBUF[0 .. CLEN]` from the seed, or refuses a `CLEN` above 256. -/
def Obligations.CrcTxComputesTheBufferCrc : Prop :=
  decode 0x00000082 = .ok .crcTx ∧
  (∀ s : State, 256 < s.clen.toNat → ∃ t, exec .crcTx s = .next t ∧
    endsWith .invalidArgument s.matched noReg [] s t) ∧
  (∀ s : State, s.clen.toNat ≤ 256 → ∃ t, exec .crcTx s = .next t ∧
    t.regWord .crc = crcWord (crc16 (s.txSlice 0 s.clen.toNat)) ∧
    endsWith .ok s.matched (fun r => r = .crc) [] s t) ∧
  crc16 [0x01, 0x03, 0x00, 0x00, 0x00, 0x0A] = (0xC5, 0xCD)

/-- R90: `CRC.RX`, the same on `RXBUF`. -/
def Obligations.CrcRxComputesTheBufferCrc : Prop :=
  decode 0x00000083 = .ok .crcRx ∧
  (∀ s : State, 256 < s.clen.toNat → ∃ t, exec .crcRx s = .next t ∧
    endsWith .invalidArgument s.matched noReg [] s t) ∧
  (∀ s : State, s.clen.toNat ≤ 256 → ∃ t, exec .crcRx s = .next t ∧
    t.regWord .crc = crcWord (crc16 (s.rxSlice 0 s.clen.toNat)) ∧
    endsWith .ok s.matched (fun r => r = .crc) [] s t) ∧
  crc16 [0x01, 0x06] = (0x80, 0x22)

/-- R91: `VFY.TX` sets `MATCH` to whether the CRC of `TXBUF[0 .. CLEN]` is `EXP`, and ends `OK` either way; a `CLEN` above 256 clears
`MATCH` and is refused. -/
def Obligations.VfyTxSetsMatch : Prop :=
  decode 0x00000084 = .ok .vfyTx ∧
  (∀ s : State, 256 < s.clen.toNat → ∃ t, exec .vfyTx s = .next t ∧
    endsWith .invalidArgument false noReg [] s t) ∧
  (∀ s : State, s.clen.toNat ≤ 256 → ∃ t, exec .vfyTx s = .next t ∧
    endsWith .ok (decide (crc16 (s.txSlice 0 s.clen.toNat) = (loByte s.exp, hiByte s.exp))) noReg [] s t)

/-- R92: `VFY.RX`, the same on `RXBUF`. -/
def Obligations.VfyRxSetsMatch : Prop :=
  decode 0x00000085 = .ok .vfyRx ∧
  (∀ s : State, 256 < s.clen.toNat → ∃ t, exec .vfyRx s = .next t ∧
    endsWith .invalidArgument false noReg [] s t) ∧
  (∀ s : State, s.clen.toNat ≤ 256 → ∃ t, exec .vfyRx s = .next t ∧
    endsWith .ok (decide (crc16 (s.rxSlice 0 s.clen.toNat) = (loByte s.exp, hiByte s.exp))) noReg [] s t)

/-! ### The frame codec (41_codec.md) -/

/-- R101: `encode` refuses function 0, functions above 127 and payloads above 252 bytes, and otherwise builds the wire
frame, 4 to 256 bytes long; the address is not checked. That a refused frame is never sent is in `SendFollowsItsRule`. -/
def Obligations.FrameEncodeBuildsTheWireFrame : Prop :=
  ∀ (a f : Byte) (p : List Byte),
    (f.toNat = 0 ∨ 127 < f.toNat ∨ 252 < p.length → frameEncode a f p = .error .invalidArgument) ∧
    (1 ≤ f.toNat → f.toNat ≤ 127 → p.length ≤ 252 →
      frameEncode a f p = .ok (wireFrame a f p) ∧ (wireFrame a f p).length = p.length + 4)

/-- R103: `decode` tests length, then CRC, then header, and the first test that fails decides; there is no
`InvalidArgument`. -/
def Obligations.FrameDecodeTestsInOrder : Prop :=
  (∀ (raw : List Byte) (ea ef : Byte), raw.length < 4 → frameDecode raw ea ef = .error .timeout) ∧
  (∀ (x y lo hi ea ef : Byte) (p : List Byte),
    (crc16 ([x, y] ++ p) ≠ (lo, hi) → frameDecode ([x, y] ++ p ++ [lo, hi]) ea ef = .error .badCrc) ∧
    (crc16 ([x, y] ++ p) = (lo, hi) → x ≠ ea ∨ y ≠ ef →
      frameDecode ([x, y] ++ p ++ [lo, hi]) ea ef = .error .protocolError) ∧
    (crc16 ([x, y] ++ p) = (lo, hi) → x = ea → y = ef →
      frameDecode ([x, y] ++ p ++ [lo, hi]) ea ef = .ok p.length))

/-- R102: `ENC` builds the wire frame of `ADDR`, `FUNC` and the staged payload in place, or refuses and clears `TXLEN`. -/
def Obligations.EncBuildsTheFrameInPlace : Prop :=
  decode 0x000000A0 = .ok .enc ∧
  (∀ s : State, s.func.toNat = 0 ∨ 127 < s.func.toNat ∨ 252 < s.plen.toNat → ∃ t, exec .enc s = .next t ∧
    t.regWord .txlen = 0 ∧ endsWith .invalidArgument s.matched (fun r => r = .txlen) [] s t) ∧
  (∀ s : State, 1 ≤ s.func.toNat → s.func.toNat ≤ 127 → s.plen.toNat ≤ 252 → ∃ t, exec .enc s = .next t ∧
    t.txSlice 0 (s.plen.toNat + 4) = wireFrame s.addr s.func (s.txSlice 2 (2 + s.plen.toNat)) ∧
    t.regWord .txlen = lenWord (s.plen.toNat + 4) ∧
    endsWith .ok s.matched (fun r => r = .txlen ∨ frameBytes s.plen.toNat r) [] s t)

/-- R104: `DEC` refuses an `RXLEN` above 256, and otherwise ends as `decode` of `RXBUF[0 .. RXLEN]` does, with `RPLEN` the payload's length
or 0; the payload stays in place. -/
def Obligations.DecDecodesInPlace : Prop :=
  decode 0x000000A1 = .ok .dec ∧
  (∀ s : State, 256 < s.rxlen.toNat → ∃ t, exec .dec s = .next t ∧
    t.regWord .rplen = 0 ∧ endsWith .invalidArgument s.matched (fun r => r = .rplen) [] s t) ∧
  (∀ (s : State) (k : StatusCode), s.rxlen.toNat ≤ 256 →
    frameDecode (s.rxSlice 0 s.rxlen.toNat) s.addr s.func = .error k → ∃ t, exec .dec s = .next t ∧
    t.regWord .rplen = 0 ∧ endsWith k s.matched (fun r => r = .rplen) [] s t) ∧
  (∀ (s : State) (len : Nat), s.rxlen.toNat ≤ 256 →
    frameDecode (s.rxSlice 0 s.rxlen.toNat) s.addr s.func = .ok len → ∃ t, exec .dec s = .next t ∧
    len = s.rxlen.toNat - 4 ∧ t.regWord .rplen = lenWord len ∧
    endsWith .ok s.matched (fun r => r = .rplen) [] s t)

/-- R105, marked derived: encode then decode recovers the payload; and in registers, `ENC`, a copy of the frame to `RXBUF`, and `DEC`. -/
def Obligations.EncodeThenDecodeRecoversThePayload : Prop :=
  (∀ (a f : Byte) (p : List Byte), 1 ≤ f.toNat → f.toNat ≤ 127 → p.length ≤ 252 →
    ∃ F, frameEncode a f p = .ok F ∧ F.length = p.length + 4 ∧ frameDecode F a f = .ok p.length ∧
      (F.drop 2).take p.length = p) ∧
  (∀ s t u : State, exec .enc s = .next t → t.code = .ok →
    u.addr = t.addr → u.func = t.func → u.rxlen = t.txlen →
    (∀ i, i < t.txlen.toNat → u.rxByte i = t.txByte i) →
    ∃ v, exec .dec u = .next v ∧ v.code = .ok ∧ v.rplen = t.plen ∧
      ∀ i, i < t.plen.toNat → v.rxByte (2 + i) = t.txByte (2 + i))

/-- R106, marked derived: a good frame with another address or function decodes as `ProtocolError`. -/
def Obligations.ForeignFrameIsProtocolError : Prop :=
  ∀ (a f ea ef : Byte) (p F : List Byte), frameEncode a f p = .ok F → (a, f) ≠ (ea, ef) →
    frameDecode F ea ef = .error .protocolError

/-! ### The session unit (42_session.md) -/

/-- R123: `CONNECT a`, path by path. -/
def Obligations.ConnectFollowsItsRule : Prop :=
  (∀ a : Byte, decode ((a.setWidth 32 <<< 8) ||| 0xC0) = .ok (.connect a)) ∧
  -- not Disconnected
  (∀ (a : Byte) (s : State), s.connected = true → ∃ t, exec (.connect a) s = .next t ∧
    endsWith .illegalState s.matched noReg [] s t) ∧
  -- the transport does not open
  (∀ (a : Byte) (s : State), s.connected = false → (s.replyAt 0).accepted = false →
    ∃ t, exec (.connect a) s = .next t ∧ endsWith .transportError s.matched noReg [.tpOpen] s t) ∧
  -- the write fails or is short
  (∀ (a : Byte) (s : State), s.connected = false → (s.replyAt 0).accepted = true →
    (s.replyAt 1).written 4 ≠ some 4 →
    ∃ t, exec (.connect a) s = .next t ∧ t.txSlice 0 4 = wireFrame a 0x11 [] ∧ t.regWord .txlen = 4 ∧
      t.regWord .session = sessionDisconnected ∧
      endsWith .transportError s.matched (fun r => r = .session ∨ r = .txlen ∨ frameBytes 0 r)
        [.tpOpen, .tpWrite (wireFrame a 0x11 []), .tpClose] s t) ∧
  -- the read fails
  (∀ (a : Byte) (s : State), s.connected = false → (s.replyAt 0).accepted = true →
    (s.replyAt 1).written 4 = some 4 → (s.replyAt 2).received 256 = none →
    ∃ t, exec (.connect a) s = .next t ∧ t.txSlice 0 4 = wireFrame a 0x11 [] ∧ t.regWord .txlen = 4 ∧
      t.regWord .rxlen = 0 ∧ t.regWord .rplen = 0 ∧ t.regWord .session = sessionDisconnected ∧
      endsWith .transportError s.matched
        (fun r => r = .session ∨ r = .txlen ∨ r = .rxlen ∨ r = .rplen ∨ frameBytes 0 r)
        [.tpOpen, .tpWrite (wireFrame a 0x11 []), .tpRead 256, .tpClose] s t) ∧
  -- the reply does not decode
  (∀ (a : Byte) (s : State) (r : List Byte) (k : StatusCode), s.connected = false → (s.replyAt 0).accepted = true →
    (s.replyAt 1).written 4 = some 4 → (s.replyAt 2).received 256 = some r → frameDecode r a 0x11 = .error k →
    ∃ t, exec (.connect a) s = .next t ∧ t.txSlice 0 4 = wireFrame a 0x11 [] ∧ t.regWord .txlen = 4 ∧
      t.rxSlice 0 r.length = r ∧ t.regWord .rxlen = lenWord r.length ∧ t.regWord .rplen = 0 ∧
      t.regWord .session = sessionDisconnected ∧
      endsWith k s.matched
        (fun q => q = .session ∨ q = .txlen ∨ q = .rxlen ∨ q = .rplen ∨ frameBytes 0 q ∨ rxIndex (fun i => i < r.length) q)
        [.tpOpen, .tpWrite (wireFrame a 0x11 []), .tpRead 256, .tpClose] s t) ∧
  -- success
  (∀ (a : Byte) (s : State) (r : List Byte) (len : Nat), s.connected = false → (s.replyAt 0).accepted = true →
    (s.replyAt 1).written 4 = some 4 → (s.replyAt 2).received 256 = some r → frameDecode r a 0x11 = .ok len →
    ∃ t, exec (.connect a) s = .next t ∧ t.txSlice 0 4 = wireFrame a 0x11 [] ∧ t.regWord .txlen = 4 ∧
      t.rxSlice 0 r.length = r ∧ t.regWord .rxlen = lenWord r.length ∧ t.regWord .rplen = lenWord len ∧
      t.regWord .session = sessionIdle a ∧
      endsWith .ok s.matched
        (fun q => q = .session ∨ q = .txlen ∨ q = .rxlen ∨ q = .rplen ∨ frameBytes 0 q ∨ rxIndex (fun i => i < r.length) q)
        [.tpOpen, .tpWrite (wireFrame a 0x11 []), .tpRead 256] s t)

/-- R124: `SEND`, path by path. -/
def Obligations.SendFollowsItsRule : Prop :=
  decode 0x000000C1 = .ok .send ∧
  -- not Idle
  (∀ s : State, ¬ s.isIdle → ∃ t, exec .send s = .next t ∧ endsWith .illegalState s.matched noReg [] s t) ∧
  -- Idle, bad arguments
  (∀ s : State, s.isIdle → s.func.toNat = 0 ∨ 127 < s.func.toNat ∨ 252 < s.plen.toNat →
    ∃ t, exec .send s = .next t ∧ t.regWord .txlen = 0 ∧
      endsWith .invalidArgument s.matched (fun r => r = .txlen) [] s t) ∧
  -- the write fails or is short
  (∀ s : State, s.isIdle → 1 ≤ s.func.toNat → s.func.toNat ≤ 127 → s.plen.toNat ≤ 252 →
    (s.replyAt 0).written (s.plen.toNat + 4) ≠ some (s.plen.toNat + 4) →
    ∃ t, exec .send s = .next t ∧
      t.txSlice 0 (s.plen.toNat + 4) = wireFrame s.devaddr s.func (s.txSlice 2 (2 + s.plen.toNat)) ∧
      t.regWord .txlen = lenWord (s.plen.toNat + 4) ∧
      endsWith .transportError s.matched (fun r => r = .txlen ∨ frameBytes s.plen.toNat r)
        [.tpWrite (wireFrame s.devaddr s.func (s.txSlice 2 (2 + s.plen.toNat)))] s t) ∧
  -- success
  (∀ s : State, s.isIdle → 1 ≤ s.func.toNat → s.func.toNat ≤ 127 → s.plen.toNat ≤ 252 →
    (s.replyAt 0).written (s.plen.toNat + 4) = some (s.plen.toNat + 4) →
    ∃ t, exec .send s = .next t ∧
      t.txSlice 0 (s.plen.toNat + 4) = wireFrame s.devaddr s.func (s.txSlice 2 (2 + s.plen.toNat)) ∧
      t.regWord .txlen = lenWord (s.plen.toNat + 4) ∧
      t.regWord .session = sessionAwaiting s.devaddr s.func ∧
      endsWith .ok s.matched (fun r => r = .session ∨ r = .txlen ∨ frameBytes s.plen.toNat r)
        [.tpWrite (wireFrame s.devaddr s.func (s.txSlice 2 (2 + s.plen.toNat)))] s t)

/-- R125: `RECV`, path by path. The rule tests `PENDING` alone, and so does this statement. -/
def Obligations.RecvFollowsItsRule : Prop :=
  decode 0x000000C2 = .ok .recv ∧
  (∀ s : State, s.pending = false → ∃ t, exec .recv s = .next t ∧ endsWith .illegalState s.matched noReg [] s t) ∧
  -- the read fails
  (∀ s : State, s.pending = true → (s.replyAt 0).received 256 = none →
    ∃ t, exec .recv s = .next t ∧ t.regWord .rxlen = 0 ∧ t.regWord .rplen = 0 ∧
      t.regWord .session = bitWord s.connected ||| (s.devaddr.setWidth 32 <<< 8) ∧
      endsWith .transportError s.matched (fun r => r = .session ∨ r = .rxlen ∨ r = .rplen) [.tpRead 256] s t) ∧
  -- the reply does not decode
  (∀ (s : State) (r : List Byte) (k : StatusCode), s.pending = true → (s.replyAt 0).received 256 = some r →
    frameDecode r s.devaddr s.pendfunc = .error k →
    ∃ t, exec .recv s = .next t ∧ t.rxSlice 0 r.length = r ∧ t.regWord .rxlen = lenWord r.length ∧ t.regWord .rplen = 0 ∧
      t.regWord .session = bitWord s.connected ||| (s.devaddr.setWidth 32 <<< 8) ∧
      endsWith k s.matched
        (fun q => q = .session ∨ q = .rxlen ∨ q = .rplen ∨ rxIndex (fun i => i < r.length) q) [.tpRead 256] s t) ∧
  -- success
  (∀ (s : State) (r : List Byte) (len : Nat), s.pending = true → (s.replyAt 0).received 256 = some r →
    frameDecode r s.devaddr s.pendfunc = .ok len →
    ∃ t, exec .recv s = .next t ∧ t.rxSlice 0 r.length = r ∧ t.regWord .rxlen = lenWord r.length ∧
      t.regWord .rplen = lenWord len ∧
      t.regWord .session = bitWord s.connected ||| (s.devaddr.setWidth 32 <<< 8) ∧
      endsWith .ok s.matched
        (fun q => q = .session ∨ q = .rxlen ∨ q = .rplen ∨ rxIndex (fun i => i < r.length) q) [.tpRead 256] s t)

/-- R126: `DISCONNECT`: a no-op in Disconnected; else one `TpClose`, and Disconnected whatever it answers. -/
def Obligations.DisconnectFollowsItsRule : Prop :=
  decode 0x000000C3 = .ok .disconnect ∧
  (∀ s : State, s.connected = false → ∃ t, exec .disconnect s = .next t ∧ endsWith .ok s.matched noReg [] s t) ∧
  (∀ s : State, s.connected = true → ∃ t, exec .disconnect s = .next t ∧
    t.regWord .session = sessionDisconnected ∧
    endsWith (if (s.replyAt 0).accepted then .ok else .transportError) s.matched (fun r => r = .session) [.tpClose] s t)

/-- R122, marked derived from R123 to R126: the transition table of the session, cell by cell. -/
def Obligations.SessionTransitionTable : Prop :=
  (∀ (a : Byte) (s t : State), exec (.connect a) s = .next t →
    (s.isDisconnected → (t.code = .ok ∧ t.isIdle ∧ t.devaddr = a) ∨ (t.code ≠ .ok ∧ t.isDisconnected)) ∧
    (s.isIdle ∨ s.isAwaiting → endsWith .illegalState s.matched noReg [] s t)) ∧
  (∀ s t : State, exec .send s = .next t →
    (s.isDisconnected ∨ s.isAwaiting → endsWith .illegalState s.matched noReg [] s t) ∧
    (s.isIdle → (t.code = .ok ∧ t.isAwaiting ∧ t.pendfunc = s.func) ∨
      ((t.code = .invalidArgument ∨ t.code = .transportError) ∧ t.isIdle))) ∧
  (∀ s t : State, exec .recv s = .next t →
    (s.isDisconnected ∨ s.isIdle → endsWith .illegalState s.matched noReg [] s t) ∧
    (s.isAwaiting → t.isIdle ∧
      t.code ∈ ([.ok, .timeout, .badCrc, .protocolError, .transportError] : List StatusCode))) ∧
  (∀ s t : State, exec .disconnect s = .next t →
    (s.isDisconnected → t.isDisconnected ∧ endsWith .ok s.matched noReg [] s t) ∧
    (s.isIdle ∨ s.isAwaiting → t.isDisconnected ∧ (t.code = .ok ∨ t.code = .transportError))) ∧
  (∀ (i : Instr) (s t : State), exec i s = .next t → isSessionCommand i = false →
    t.regWord .session = s.regWord .session) ∧
  (∀ (s t : State) (n : RegNum) (v : Word) (es : List Event), step s = .next t →
    s.events = .read n :: es ∨ (s.events = .write n v :: es ∧ n ≠ 0x000) → t.regWord .session = s.regWord .session)

/-- R121: one request in flight. `RECV` does nothing outside Awaiting and `SEND` nothing outside Idle; and only a `SEND` that ends `OK` makes a
reply outstanding. The premise rules out the raw session value no run reaches (R24 (a)). -/
def Obligations.OneRequestInFlight : Prop :=
  (∀ s : State, BlockInv s → ¬ s.isAwaiting →
    ∃ t, exec .recv s = .next t ∧ endsWith .illegalState s.matched noReg [] s t) ∧
  (∀ s : State, BlockInv s → ¬ s.isIdle →
    ∃ t, exec .send s = .next t ∧ endsWith .illegalState s.matched noReg [] s t) ∧
  (∀ s t : State, step s = .next t → s.pending = false → t.pending = true →
    ∃ n w es, s.events = .write n w :: es ∧ hostReg n = .cmd ∧ decode w = .ok .send ∧
      s.isIdle ∧ t.code = .ok ∧ t.pendfunc = s.func)

/-- R127, marked derived: each session command issues each transport transaction at most once, and never writes or reads again. -/
def Obligations.NoTransportTransactionIsRepeated : Prop :=
  (∀ (a : Byte) (s t : State), exec (.connect a) s = .next t →
    issuedExactly [] s t ∨ issuedExactly [.tpOpen] s t ∨
    issuedExactly [.tpOpen, .tpWrite (wireFrame a 0x11 []), .tpClose] s t ∨
    issuedExactly [.tpOpen, .tpWrite (wireFrame a 0x11 []), .tpRead 256, .tpClose] s t ∨
    issuedExactly [.tpOpen, .tpWrite (wireFrame a 0x11 []), .tpRead 256] s t) ∧
  (∀ s t : State, exec .send s = .next t →
    issuedExactly [] s t ∨ issuedExactly [.tpWrite (wireFrame s.devaddr s.func (s.txSlice 2 (2 + s.plen.toNat)))] s t) ∧
  (∀ s t : State, exec .recv s = .next t → issuedExactly [] s t ∨ issuedExactly [.tpRead 256] s t) ∧
  (∀ s t : State, exec .disconnect s = .next t → issuedExactly [] s t ∨ issuedExactly [.tpClose] s t)

/-- R128, marked derived: the CRC and codec commands and every host access leave `SESSION` and the transport alone; the session commands leave `ADDR`,
`FUNC`, `PLEN`, `CLEN`, `EXP`, `CRC` and `MATCH` alone. -/
def Obligations.UnitsAreIndependent : Prop :=
  (∀ (i : Instr) (s t : State), exec i s = .next t → isSessionCommand i = false →
    t.regWord .session = s.regWord .session ∧ issuedExactly [] s t) ∧
  (∀ (s t : State) (n : RegNum) (v : Word) (es : List Event), step s = .next t →
    s.events = .read n :: es ∨ (s.events = .write n v :: es ∧ n ≠ 0x000) →
    t.regWord .session = s.regWord .session ∧ issuedExactly [] s t) ∧
  (∀ (i : Instr) (s t : State), exec i s = .next t → isSessionCommand i = true →
    t.matched = s.matched ∧ ∀ r, r = .addr ∨ r = .func ∨ r = .plen ∨ r = .clen ∨ r = .exp ∨ r = .crc →
      t.regWord r = s.regWord r)

/-! ### Whole-machine rules -/

/-- 60_exceptions.md R201, marked derived: a command can end with a code exactly when the table says so; `IllegalCommand` is no command's. -/
def Obligations.CommandsEndWithTheTabledCodes : Prop :=
  ∀ (i : Instr) (k : StatusCode), (∃ s t, exec i s = .next t ∧ t.code = k) ↔ k ∈ endingCodes i

/-- 10_state.md R11: a register not listed as written by a command is never changed by that command; nor is a buffer byte but the frame bytes and
reply bytes the command stores to in that state, none of them on a path that stores nothing; nor the outside world's side of the state. -/
def Obligations.CommandsChangeOnlyTheirRegisters : Prop :=
  ∀ (i : Instr) (s t : State), exec i s = .next t →
    readsAsBefore (fun r => commandWrites i r ∨ storesTo i s r) s t ∧ sameWorld s t

/-- R12: `CRC` is written only by `CRC.INIT`, `CRC.BYTE`, `CRC.TX`, `CRC.RX`, a host write to it, and reset; the other commands named leave `CRC`,
`EXP` and `CLEN` unchanged. -/
def Obligations.CrcRegisterHasFewWriters : Prop :=
  (∀ (i : Instr) (s t : State), exec i s = .next t → writesCrc i = false →
    t.regWord .crc = s.regWord .crc ∧ t.regWord .exp = s.regWord .exp ∧ t.regWord .clen = s.regWord .clen) ∧
  (∀ s t : State, step s = .next t → t.regWord .crc ≠ s.regWord .crc →
    (∃ w es, s.events = .write 0x00A w :: es) ∨
    (∃ w es i, s.events = .write 0x000 w :: es ∧ decode w = .ok i ∧ writesCrc i = true) ∨
    (∃ es, s.events = .reset :: es) ∨ ∃ w k es, s.events = .resetDuring w k :: es)

/-- 20_memory.md R49 to R52: the answers the block sees keep the transport's promise, and every answer that keeps it can
come, whatever was sent. -/
def Obligations.TransportAnswersAreTheAdmissibleOnes : Prop :=
  (∀ (s : State) (F : List Byte) (n : Nat), (tpWrite F s).1 = some n → n ≤ F.length) ∧
  (∀ (s : State) (bs : List Byte), (tpRead s).1 = some bs → bs.length ≤ 256) ∧
  (∀ (s : State) (F : List Byte) (n : Nat), n ≤ F.length → ∃ rs, (tpWrite F (s.withTp rs s.tpCalls)).1 = some n) ∧
  (∀ (s : State) (F : List Byte), ∃ rs, (tpWrite F (s.withTp rs s.tpCalls)).1 = none) ∧
  (∀ (s : State) (bs : List Byte), bs.length ≤ 256 → ∃ rs, (tpRead (s.withTp rs s.tpCalls)).1 = some bs) ∧
  (∀ s : State, ∃ rs, (tpRead (s.withTp rs s.tpCalls)).1 = none) ∧
  (∀ (s : State) (b : Bool), ∃ rs, (tpOpen (s.withTp rs s.tpCalls)).1 = b ∧ (tpClose (s.withTp rs s.tpCalls)).1 = b)
end

