-- ==== Sys2Proof/Laws/State.lean ====
section
/-! SUPPORT. One lemma per field of State per update: what each register write leaves in each field. -/

namespace Sys2Proof.Machine.State

/-! ### `withCode` -/

@[simp] theorem withCode_addr (s : State) (k : StatusCode) : (s.withCode k).addr = s.addr := rfl
@[simp] theorem withCode_func (s : State) (k : StatusCode) : (s.withCode k).func = s.func := rfl
@[simp] theorem withCode_plen (s : State) (k : StatusCode) : (s.withCode k).plen = s.plen := rfl
@[simp] theorem withCode_clen (s : State) (k : StatusCode) : (s.withCode k).clen = s.clen := rfl
@[simp] theorem withCode_rxlen (s : State) (k : StatusCode) : (s.withCode k).rxlen = s.rxlen := rfl
@[simp] theorem withCode_exp (s : State) (k : StatusCode) : (s.withCode k).exp = s.exp := rfl
@[simp] theorem withCode_crc (s : State) (k : StatusCode) : (s.withCode k).crc = s.crc := rfl
@[simp] theorem withCode_txlen (s : State) (k : StatusCode) : (s.withCode k).txlen = s.txlen := rfl
@[simp] theorem withCode_rplen (s : State) (k : StatusCode) : (s.withCode k).rplen = s.rplen := rfl
@[simp] theorem withCode_code (s : State) (k : StatusCode) : (s.withCode k).code = k := rfl
@[simp] theorem withCode_matched (s : State) (k : StatusCode) : (s.withCode k).matched = s.matched := rfl
@[simp] theorem withCode_connected (s : State) (k : StatusCode) : (s.withCode k).connected = s.connected := rfl
@[simp] theorem withCode_pending (s : State) (k : StatusCode) : (s.withCode k).pending = s.pending := rfl
@[simp] theorem withCode_devaddr (s : State) (k : StatusCode) : (s.withCode k).devaddr = s.devaddr := rfl
@[simp] theorem withCode_pendfunc (s : State) (k : StatusCode) : (s.withCode k).pendfunc = s.pendfunc := rfl
@[simp] theorem withCode_txbuf (s : State) (k : StatusCode) : (s.withCode k).txbuf = s.txbuf := rfl
@[simp] theorem withCode_rxbuf (s : State) (k : StatusCode) : (s.withCode k).rxbuf = s.rxbuf := rfl
@[simp] theorem withCode_epoch (s : State) (k : StatusCode) : (s.withCode k).epoch = s.epoch := rfl
@[simp] theorem withCode_events (s : State) (k : StatusCode) : (s.withCode k).events = s.events := rfl
@[simp] theorem withCode_hostReads (s : State) (k : StatusCode) : (s.withCode k).hostReads = s.hostReads := rfl
@[simp] theorem withCode_tpReplies (s : State) (k : StatusCode) : (s.withCode k).tpReplies = s.tpReplies := rfl
@[simp] theorem withCode_tpCalls (s : State) (k : StatusCode) : (s.withCode k).tpCalls = s.tpCalls := rfl

/-! ### `withMatch` -/

@[simp] theorem withMatch_addr (s : State) (b : Bool) : (s.withMatch b).addr = s.addr := rfl
@[simp] theorem withMatch_func (s : State) (b : Bool) : (s.withMatch b).func = s.func := rfl
@[simp] theorem withMatch_plen (s : State) (b : Bool) : (s.withMatch b).plen = s.plen := rfl
@[simp] theorem withMatch_clen (s : State) (b : Bool) : (s.withMatch b).clen = s.clen := rfl
@[simp] theorem withMatch_rxlen (s : State) (b : Bool) : (s.withMatch b).rxlen = s.rxlen := rfl
@[simp] theorem withMatch_exp (s : State) (b : Bool) : (s.withMatch b).exp = s.exp := rfl
@[simp] theorem withMatch_crc (s : State) (b : Bool) : (s.withMatch b).crc = s.crc := rfl
@[simp] theorem withMatch_txlen (s : State) (b : Bool) : (s.withMatch b).txlen = s.txlen := rfl
@[simp] theorem withMatch_rplen (s : State) (b : Bool) : (s.withMatch b).rplen = s.rplen := rfl
@[simp] theorem withMatch_code (s : State) (b : Bool) : (s.withMatch b).code = s.code := rfl
@[simp] theorem withMatch_matched (s : State) (b : Bool) : (s.withMatch b).matched = b := rfl
@[simp] theorem withMatch_connected (s : State) (b : Bool) : (s.withMatch b).connected = s.connected := rfl
@[simp] theorem withMatch_pending (s : State) (b : Bool) : (s.withMatch b).pending = s.pending := rfl
@[simp] theorem withMatch_devaddr (s : State) (b : Bool) : (s.withMatch b).devaddr = s.devaddr := rfl
@[simp] theorem withMatch_pendfunc (s : State) (b : Bool) : (s.withMatch b).pendfunc = s.pendfunc := rfl
@[simp] theorem withMatch_txbuf (s : State) (b : Bool) : (s.withMatch b).txbuf = s.txbuf := rfl
@[simp] theorem withMatch_rxbuf (s : State) (b : Bool) : (s.withMatch b).rxbuf = s.rxbuf := rfl
@[simp] theorem withMatch_epoch (s : State) (b : Bool) : (s.withMatch b).epoch = s.epoch := rfl
@[simp] theorem withMatch_events (s : State) (b : Bool) : (s.withMatch b).events = s.events := rfl
@[simp] theorem withMatch_hostReads (s : State) (b : Bool) : (s.withMatch b).hostReads = s.hostReads := rfl
@[simp] theorem withMatch_tpReplies (s : State) (b : Bool) : (s.withMatch b).tpReplies = s.tpReplies := rfl
@[simp] theorem withMatch_tpCalls (s : State) (b : Bool) : (s.withMatch b).tpCalls = s.tpCalls := rfl

/-! ### `withAddr` -/

@[simp] theorem withAddr_addr (s : State) (v : Byte) : (s.withAddr v).addr = v := rfl
@[simp] theorem withAddr_func (s : State) (v : Byte) : (s.withAddr v).func = s.func := rfl
@[simp] theorem withAddr_plen (s : State) (v : Byte) : (s.withAddr v).plen = s.plen := rfl
@[simp] theorem withAddr_clen (s : State) (v : Byte) : (s.withAddr v).clen = s.clen := rfl
@[simp] theorem withAddr_rxlen (s : State) (v : Byte) : (s.withAddr v).rxlen = s.rxlen := rfl
@[simp] theorem withAddr_exp (s : State) (v : Byte) : (s.withAddr v).exp = s.exp := rfl
@[simp] theorem withAddr_crc (s : State) (v : Byte) : (s.withAddr v).crc = s.crc := rfl
@[simp] theorem withAddr_txlen (s : State) (v : Byte) : (s.withAddr v).txlen = s.txlen := rfl
@[simp] theorem withAddr_rplen (s : State) (v : Byte) : (s.withAddr v).rplen = s.rplen := rfl
@[simp] theorem withAddr_code (s : State) (v : Byte) : (s.withAddr v).code = s.code := rfl
@[simp] theorem withAddr_matched (s : State) (v : Byte) : (s.withAddr v).matched = s.matched := rfl
@[simp] theorem withAddr_connected (s : State) (v : Byte) : (s.withAddr v).connected = s.connected := rfl
@[simp] theorem withAddr_pending (s : State) (v : Byte) : (s.withAddr v).pending = s.pending := rfl
@[simp] theorem withAddr_devaddr (s : State) (v : Byte) : (s.withAddr v).devaddr = s.devaddr := rfl
@[simp] theorem withAddr_pendfunc (s : State) (v : Byte) : (s.withAddr v).pendfunc = s.pendfunc := rfl
@[simp] theorem withAddr_txbuf (s : State) (v : Byte) : (s.withAddr v).txbuf = s.txbuf := rfl
@[simp] theorem withAddr_rxbuf (s : State) (v : Byte) : (s.withAddr v).rxbuf = s.rxbuf := rfl
@[simp] theorem withAddr_epoch (s : State) (v : Byte) : (s.withAddr v).epoch = s.epoch := rfl
@[simp] theorem withAddr_events (s : State) (v : Byte) : (s.withAddr v).events = s.events := rfl
@[simp] theorem withAddr_hostReads (s : State) (v : Byte) : (s.withAddr v).hostReads = s.hostReads := rfl
@[simp] theorem withAddr_tpReplies (s : State) (v : Byte) : (s.withAddr v).tpReplies = s.tpReplies := rfl
@[simp] theorem withAddr_tpCalls (s : State) (v : Byte) : (s.withAddr v).tpCalls = s.tpCalls := rfl

/-! ### `withFunc` -/

@[simp] theorem withFunc_addr (s : State) (v : Byte) : (s.withFunc v).addr = s.addr := rfl
@[simp] theorem withFunc_func (s : State) (v : Byte) : (s.withFunc v).func = v := rfl
@[simp] theorem withFunc_plen (s : State) (v : Byte) : (s.withFunc v).plen = s.plen := rfl
@[simp] theorem withFunc_clen (s : State) (v : Byte) : (s.withFunc v).clen = s.clen := rfl
@[simp] theorem withFunc_rxlen (s : State) (v : Byte) : (s.withFunc v).rxlen = s.rxlen := rfl
@[simp] theorem withFunc_exp (s : State) (v : Byte) : (s.withFunc v).exp = s.exp := rfl
@[simp] theorem withFunc_crc (s : State) (v : Byte) : (s.withFunc v).crc = s.crc := rfl
@[simp] theorem withFunc_txlen (s : State) (v : Byte) : (s.withFunc v).txlen = s.txlen := rfl
@[simp] theorem withFunc_rplen (s : State) (v : Byte) : (s.withFunc v).rplen = s.rplen := rfl
@[simp] theorem withFunc_code (s : State) (v : Byte) : (s.withFunc v).code = s.code := rfl
@[simp] theorem withFunc_matched (s : State) (v : Byte) : (s.withFunc v).matched = s.matched := rfl
@[simp] theorem withFunc_connected (s : State) (v : Byte) : (s.withFunc v).connected = s.connected := rfl
@[simp] theorem withFunc_pending (s : State) (v : Byte) : (s.withFunc v).pending = s.pending := rfl
@[simp] theorem withFunc_devaddr (s : State) (v : Byte) : (s.withFunc v).devaddr = s.devaddr := rfl
@[simp] theorem withFunc_pendfunc (s : State) (v : Byte) : (s.withFunc v).pendfunc = s.pendfunc := rfl
@[simp] theorem withFunc_txbuf (s : State) (v : Byte) : (s.withFunc v).txbuf = s.txbuf := rfl
@[simp] theorem withFunc_rxbuf (s : State) (v : Byte) : (s.withFunc v).rxbuf = s.rxbuf := rfl
@[simp] theorem withFunc_epoch (s : State) (v : Byte) : (s.withFunc v).epoch = s.epoch := rfl
@[simp] theorem withFunc_events (s : State) (v : Byte) : (s.withFunc v).events = s.events := rfl
@[simp] theorem withFunc_hostReads (s : State) (v : Byte) : (s.withFunc v).hostReads = s.hostReads := rfl
@[simp] theorem withFunc_tpReplies (s : State) (v : Byte) : (s.withFunc v).tpReplies = s.tpReplies := rfl
@[simp] theorem withFunc_tpCalls (s : State) (v : Byte) : (s.withFunc v).tpCalls = s.tpCalls := rfl

/-! ### `withPlen` -/

@[simp] theorem withPlen_addr (s : State) (v : Byte) : (s.withPlen v).addr = s.addr := rfl
@[simp] theorem withPlen_func (s : State) (v : Byte) : (s.withPlen v).func = s.func := rfl
@[simp] theorem withPlen_plen (s : State) (v : Byte) : (s.withPlen v).plen = v := rfl
@[simp] theorem withPlen_clen (s : State) (v : Byte) : (s.withPlen v).clen = s.clen := rfl
@[simp] theorem withPlen_rxlen (s : State) (v : Byte) : (s.withPlen v).rxlen = s.rxlen := rfl
@[simp] theorem withPlen_exp (s : State) (v : Byte) : (s.withPlen v).exp = s.exp := rfl
@[simp] theorem withPlen_crc (s : State) (v : Byte) : (s.withPlen v).crc = s.crc := rfl
@[simp] theorem withPlen_txlen (s : State) (v : Byte) : (s.withPlen v).txlen = s.txlen := rfl
@[simp] theorem withPlen_rplen (s : State) (v : Byte) : (s.withPlen v).rplen = s.rplen := rfl
@[simp] theorem withPlen_code (s : State) (v : Byte) : (s.withPlen v).code = s.code := rfl
@[simp] theorem withPlen_matched (s : State) (v : Byte) : (s.withPlen v).matched = s.matched := rfl
@[simp] theorem withPlen_connected (s : State) (v : Byte) : (s.withPlen v).connected = s.connected := rfl
@[simp] theorem withPlen_pending (s : State) (v : Byte) : (s.withPlen v).pending = s.pending := rfl
@[simp] theorem withPlen_devaddr (s : State) (v : Byte) : (s.withPlen v).devaddr = s.devaddr := rfl
@[simp] theorem withPlen_pendfunc (s : State) (v : Byte) : (s.withPlen v).pendfunc = s.pendfunc := rfl
@[simp] theorem withPlen_txbuf (s : State) (v : Byte) : (s.withPlen v).txbuf = s.txbuf := rfl
@[simp] theorem withPlen_rxbuf (s : State) (v : Byte) : (s.withPlen v).rxbuf = s.rxbuf := rfl
@[simp] theorem withPlen_epoch (s : State) (v : Byte) : (s.withPlen v).epoch = s.epoch := rfl
@[simp] theorem withPlen_events (s : State) (v : Byte) : (s.withPlen v).events = s.events := rfl
@[simp] theorem withPlen_hostReads (s : State) (v : Byte) : (s.withPlen v).hostReads = s.hostReads := rfl
@[simp] theorem withPlen_tpReplies (s : State) (v : Byte) : (s.withPlen v).tpReplies = s.tpReplies := rfl
@[simp] theorem withPlen_tpCalls (s : State) (v : Byte) : (s.withPlen v).tpCalls = s.tpCalls := rfl

/-! ### `withClen` -/

@[simp] theorem withClen_addr (s : State) (v : Len9) : (s.withClen v).addr = s.addr := rfl
@[simp] theorem withClen_func (s : State) (v : Len9) : (s.withClen v).func = s.func := rfl
@[simp] theorem withClen_plen (s : State) (v : Len9) : (s.withClen v).plen = s.plen := rfl
@[simp] theorem withClen_clen (s : State) (v : Len9) : (s.withClen v).clen = v := rfl
@[simp] theorem withClen_rxlen (s : State) (v : Len9) : (s.withClen v).rxlen = s.rxlen := rfl
@[simp] theorem withClen_exp (s : State) (v : Len9) : (s.withClen v).exp = s.exp := rfl
@[simp] theorem withClen_crc (s : State) (v : Len9) : (s.withClen v).crc = s.crc := rfl
@[simp] theorem withClen_txlen (s : State) (v : Len9) : (s.withClen v).txlen = s.txlen := rfl
@[simp] theorem withClen_rplen (s : State) (v : Len9) : (s.withClen v).rplen = s.rplen := rfl
@[simp] theorem withClen_code (s : State) (v : Len9) : (s.withClen v).code = s.code := rfl
@[simp] theorem withClen_matched (s : State) (v : Len9) : (s.withClen v).matched = s.matched := rfl
@[simp] theorem withClen_connected (s : State) (v : Len9) : (s.withClen v).connected = s.connected := rfl
@[simp] theorem withClen_pending (s : State) (v : Len9) : (s.withClen v).pending = s.pending := rfl
@[simp] theorem withClen_devaddr (s : State) (v : Len9) : (s.withClen v).devaddr = s.devaddr := rfl
@[simp] theorem withClen_pendfunc (s : State) (v : Len9) : (s.withClen v).pendfunc = s.pendfunc := rfl
@[simp] theorem withClen_txbuf (s : State) (v : Len9) : (s.withClen v).txbuf = s.txbuf := rfl
@[simp] theorem withClen_rxbuf (s : State) (v : Len9) : (s.withClen v).rxbuf = s.rxbuf := rfl
@[simp] theorem withClen_epoch (s : State) (v : Len9) : (s.withClen v).epoch = s.epoch := rfl
@[simp] theorem withClen_events (s : State) (v : Len9) : (s.withClen v).events = s.events := rfl
@[simp] theorem withClen_hostReads (s : State) (v : Len9) : (s.withClen v).hostReads = s.hostReads := rfl
@[simp] theorem withClen_tpReplies (s : State) (v : Len9) : (s.withClen v).tpReplies = s.tpReplies := rfl
@[simp] theorem withClen_tpCalls (s : State) (v : Len9) : (s.withClen v).tpCalls = s.tpCalls := rfl

/-! ### `withRxlen` -/

@[simp] theorem withRxlen_addr (s : State) (v : Len9) : (s.withRxlen v).addr = s.addr := rfl
@[simp] theorem withRxlen_func (s : State) (v : Len9) : (s.withRxlen v).func = s.func := rfl
@[simp] theorem withRxlen_plen (s : State) (v : Len9) : (s.withRxlen v).plen = s.plen := rfl
@[simp] theorem withRxlen_clen (s : State) (v : Len9) : (s.withRxlen v).clen = s.clen := rfl
@[simp] theorem withRxlen_rxlen (s : State) (v : Len9) : (s.withRxlen v).rxlen = v := rfl
@[simp] theorem withRxlen_exp (s : State) (v : Len9) : (s.withRxlen v).exp = s.exp := rfl
@[simp] theorem withRxlen_crc (s : State) (v : Len9) : (s.withRxlen v).crc = s.crc := rfl
@[simp] theorem withRxlen_txlen (s : State) (v : Len9) : (s.withRxlen v).txlen = s.txlen := rfl
@[simp] theorem withRxlen_rplen (s : State) (v : Len9) : (s.withRxlen v).rplen = s.rplen := rfl
@[simp] theorem withRxlen_code (s : State) (v : Len9) : (s.withRxlen v).code = s.code := rfl
@[simp] theorem withRxlen_matched (s : State) (v : Len9) : (s.withRxlen v).matched = s.matched := rfl
@[simp] theorem withRxlen_connected (s : State) (v : Len9) : (s.withRxlen v).connected = s.connected := rfl
@[simp] theorem withRxlen_pending (s : State) (v : Len9) : (s.withRxlen v).pending = s.pending := rfl
@[simp] theorem withRxlen_devaddr (s : State) (v : Len9) : (s.withRxlen v).devaddr = s.devaddr := rfl
@[simp] theorem withRxlen_pendfunc (s : State) (v : Len9) : (s.withRxlen v).pendfunc = s.pendfunc := rfl
@[simp] theorem withRxlen_txbuf (s : State) (v : Len9) : (s.withRxlen v).txbuf = s.txbuf := rfl
@[simp] theorem withRxlen_rxbuf (s : State) (v : Len9) : (s.withRxlen v).rxbuf = s.rxbuf := rfl
@[simp] theorem withRxlen_epoch (s : State) (v : Len9) : (s.withRxlen v).epoch = s.epoch := rfl
@[simp] theorem withRxlen_events (s : State) (v : Len9) : (s.withRxlen v).events = s.events := rfl
@[simp] theorem withRxlen_hostReads (s : State) (v : Len9) : (s.withRxlen v).hostReads = s.hostReads := rfl
@[simp] theorem withRxlen_tpReplies (s : State) (v : Len9) : (s.withRxlen v).tpReplies = s.tpReplies := rfl
@[simp] theorem withRxlen_tpCalls (s : State) (v : Len9) : (s.withRxlen v).tpCalls = s.tpCalls := rfl

/-! ### `withExp` -/

@[simp] theorem withExp_addr (s : State) (v : Crc16) : (s.withExp v).addr = s.addr := rfl
@[simp] theorem withExp_func (s : State) (v : Crc16) : (s.withExp v).func = s.func := rfl
@[simp] theorem withExp_plen (s : State) (v : Crc16) : (s.withExp v).plen = s.plen := rfl
@[simp] theorem withExp_clen (s : State) (v : Crc16) : (s.withExp v).clen = s.clen := rfl
@[simp] theorem withExp_rxlen (s : State) (v : Crc16) : (s.withExp v).rxlen = s.rxlen := rfl
@[simp] theorem withExp_exp (s : State) (v : Crc16) : (s.withExp v).exp = v := rfl
@[simp] theorem withExp_crc (s : State) (v : Crc16) : (s.withExp v).crc = s.crc := rfl
@[simp] theorem withExp_txlen (s : State) (v : Crc16) : (s.withExp v).txlen = s.txlen := rfl
@[simp] theorem withExp_rplen (s : State) (v : Crc16) : (s.withExp v).rplen = s.rplen := rfl
@[simp] theorem withExp_code (s : State) (v : Crc16) : (s.withExp v).code = s.code := rfl
@[simp] theorem withExp_matched (s : State) (v : Crc16) : (s.withExp v).matched = s.matched := rfl
@[simp] theorem withExp_connected (s : State) (v : Crc16) : (s.withExp v).connected = s.connected := rfl
@[simp] theorem withExp_pending (s : State) (v : Crc16) : (s.withExp v).pending = s.pending := rfl
@[simp] theorem withExp_devaddr (s : State) (v : Crc16) : (s.withExp v).devaddr = s.devaddr := rfl
@[simp] theorem withExp_pendfunc (s : State) (v : Crc16) : (s.withExp v).pendfunc = s.pendfunc := rfl
@[simp] theorem withExp_txbuf (s : State) (v : Crc16) : (s.withExp v).txbuf = s.txbuf := rfl
@[simp] theorem withExp_rxbuf (s : State) (v : Crc16) : (s.withExp v).rxbuf = s.rxbuf := rfl
@[simp] theorem withExp_epoch (s : State) (v : Crc16) : (s.withExp v).epoch = s.epoch := rfl
@[simp] theorem withExp_events (s : State) (v : Crc16) : (s.withExp v).events = s.events := rfl
@[simp] theorem withExp_hostReads (s : State) (v : Crc16) : (s.withExp v).hostReads = s.hostReads := rfl
@[simp] theorem withExp_tpReplies (s : State) (v : Crc16) : (s.withExp v).tpReplies = s.tpReplies := rfl
@[simp] theorem withExp_tpCalls (s : State) (v : Crc16) : (s.withExp v).tpCalls = s.tpCalls := rfl

/-! ### `withCrc` -/

@[simp] theorem withCrc_addr (s : State) (v : Crc16) : (s.withCrc v).addr = s.addr := rfl
@[simp] theorem withCrc_func (s : State) (v : Crc16) : (s.withCrc v).func = s.func := rfl
@[simp] theorem withCrc_plen (s : State) (v : Crc16) : (s.withCrc v).plen = s.plen := rfl
@[simp] theorem withCrc_clen (s : State) (v : Crc16) : (s.withCrc v).clen = s.clen := rfl
@[simp] theorem withCrc_rxlen (s : State) (v : Crc16) : (s.withCrc v).rxlen = s.rxlen := rfl
@[simp] theorem withCrc_exp (s : State) (v : Crc16) : (s.withCrc v).exp = s.exp := rfl
@[simp] theorem withCrc_crc (s : State) (v : Crc16) : (s.withCrc v).crc = v := rfl
@[simp] theorem withCrc_txlen (s : State) (v : Crc16) : (s.withCrc v).txlen = s.txlen := rfl
@[simp] theorem withCrc_rplen (s : State) (v : Crc16) : (s.withCrc v).rplen = s.rplen := rfl
@[simp] theorem withCrc_code (s : State) (v : Crc16) : (s.withCrc v).code = s.code := rfl
@[simp] theorem withCrc_matched (s : State) (v : Crc16) : (s.withCrc v).matched = s.matched := rfl
@[simp] theorem withCrc_connected (s : State) (v : Crc16) : (s.withCrc v).connected = s.connected := rfl
@[simp] theorem withCrc_pending (s : State) (v : Crc16) : (s.withCrc v).pending = s.pending := rfl
@[simp] theorem withCrc_devaddr (s : State) (v : Crc16) : (s.withCrc v).devaddr = s.devaddr := rfl
@[simp] theorem withCrc_pendfunc (s : State) (v : Crc16) : (s.withCrc v).pendfunc = s.pendfunc := rfl
@[simp] theorem withCrc_txbuf (s : State) (v : Crc16) : (s.withCrc v).txbuf = s.txbuf := rfl
@[simp] theorem withCrc_rxbuf (s : State) (v : Crc16) : (s.withCrc v).rxbuf = s.rxbuf := rfl
@[simp] theorem withCrc_epoch (s : State) (v : Crc16) : (s.withCrc v).epoch = s.epoch := rfl
@[simp] theorem withCrc_events (s : State) (v : Crc16) : (s.withCrc v).events = s.events := rfl
@[simp] theorem withCrc_hostReads (s : State) (v : Crc16) : (s.withCrc v).hostReads = s.hostReads := rfl
@[simp] theorem withCrc_tpReplies (s : State) (v : Crc16) : (s.withCrc v).tpReplies = s.tpReplies := rfl
@[simp] theorem withCrc_tpCalls (s : State) (v : Crc16) : (s.withCrc v).tpCalls = s.tpCalls := rfl

/-! ### `withTxlen` -/

@[simp] theorem withTxlen_addr (s : State) (v : Len9) : (s.withTxlen v).addr = s.addr := rfl
@[simp] theorem withTxlen_func (s : State) (v : Len9) : (s.withTxlen v).func = s.func := rfl
@[simp] theorem withTxlen_plen (s : State) (v : Len9) : (s.withTxlen v).plen = s.plen := rfl
@[simp] theorem withTxlen_clen (s : State) (v : Len9) : (s.withTxlen v).clen = s.clen := rfl
@[simp] theorem withTxlen_rxlen (s : State) (v : Len9) : (s.withTxlen v).rxlen = s.rxlen := rfl
@[simp] theorem withTxlen_exp (s : State) (v : Len9) : (s.withTxlen v).exp = s.exp := rfl
@[simp] theorem withTxlen_crc (s : State) (v : Len9) : (s.withTxlen v).crc = s.crc := rfl
@[simp] theorem withTxlen_txlen (s : State) (v : Len9) : (s.withTxlen v).txlen = v := rfl
@[simp] theorem withTxlen_rplen (s : State) (v : Len9) : (s.withTxlen v).rplen = s.rplen := rfl
@[simp] theorem withTxlen_code (s : State) (v : Len9) : (s.withTxlen v).code = s.code := rfl
@[simp] theorem withTxlen_matched (s : State) (v : Len9) : (s.withTxlen v).matched = s.matched := rfl
@[simp] theorem withTxlen_connected (s : State) (v : Len9) : (s.withTxlen v).connected = s.connected := rfl
@[simp] theorem withTxlen_pending (s : State) (v : Len9) : (s.withTxlen v).pending = s.pending := rfl
@[simp] theorem withTxlen_devaddr (s : State) (v : Len9) : (s.withTxlen v).devaddr = s.devaddr := rfl
@[simp] theorem withTxlen_pendfunc (s : State) (v : Len9) : (s.withTxlen v).pendfunc = s.pendfunc := rfl
@[simp] theorem withTxlen_txbuf (s : State) (v : Len9) : (s.withTxlen v).txbuf = s.txbuf := rfl
@[simp] theorem withTxlen_rxbuf (s : State) (v : Len9) : (s.withTxlen v).rxbuf = s.rxbuf := rfl
@[simp] theorem withTxlen_epoch (s : State) (v : Len9) : (s.withTxlen v).epoch = s.epoch := rfl
@[simp] theorem withTxlen_events (s : State) (v : Len9) : (s.withTxlen v).events = s.events := rfl
@[simp] theorem withTxlen_hostReads (s : State) (v : Len9) : (s.withTxlen v).hostReads = s.hostReads := rfl
@[simp] theorem withTxlen_tpReplies (s : State) (v : Len9) : (s.withTxlen v).tpReplies = s.tpReplies := rfl
@[simp] theorem withTxlen_tpCalls (s : State) (v : Len9) : (s.withTxlen v).tpCalls = s.tpCalls := rfl

/-! ### `withRplen` -/

@[simp] theorem withRplen_addr (s : State) (v : Byte) : (s.withRplen v).addr = s.addr := rfl
@[simp] theorem withRplen_func (s : State) (v : Byte) : (s.withRplen v).func = s.func := rfl
@[simp] theorem withRplen_plen (s : State) (v : Byte) : (s.withRplen v).plen = s.plen := rfl
@[simp] theorem withRplen_clen (s : State) (v : Byte) : (s.withRplen v).clen = s.clen := rfl
@[simp] theorem withRplen_rxlen (s : State) (v : Byte) : (s.withRplen v).rxlen = s.rxlen := rfl
@[simp] theorem withRplen_exp (s : State) (v : Byte) : (s.withRplen v).exp = s.exp := rfl
@[simp] theorem withRplen_crc (s : State) (v : Byte) : (s.withRplen v).crc = s.crc := rfl
@[simp] theorem withRplen_txlen (s : State) (v : Byte) : (s.withRplen v).txlen = s.txlen := rfl
@[simp] theorem withRplen_rplen (s : State) (v : Byte) : (s.withRplen v).rplen = v := rfl
@[simp] theorem withRplen_code (s : State) (v : Byte) : (s.withRplen v).code = s.code := rfl
@[simp] theorem withRplen_matched (s : State) (v : Byte) : (s.withRplen v).matched = s.matched := rfl
@[simp] theorem withRplen_connected (s : State) (v : Byte) : (s.withRplen v).connected = s.connected := rfl
@[simp] theorem withRplen_pending (s : State) (v : Byte) : (s.withRplen v).pending = s.pending := rfl
@[simp] theorem withRplen_devaddr (s : State) (v : Byte) : (s.withRplen v).devaddr = s.devaddr := rfl
@[simp] theorem withRplen_pendfunc (s : State) (v : Byte) : (s.withRplen v).pendfunc = s.pendfunc := rfl
@[simp] theorem withRplen_txbuf (s : State) (v : Byte) : (s.withRplen v).txbuf = s.txbuf := rfl
@[simp] theorem withRplen_rxbuf (s : State) (v : Byte) : (s.withRplen v).rxbuf = s.rxbuf := rfl
@[simp] theorem withRplen_epoch (s : State) (v : Byte) : (s.withRplen v).epoch = s.epoch := rfl
@[simp] theorem withRplen_events (s : State) (v : Byte) : (s.withRplen v).events = s.events := rfl
@[simp] theorem withRplen_hostReads (s : State) (v : Byte) : (s.withRplen v).hostReads = s.hostReads := rfl
@[simp] theorem withRplen_tpReplies (s : State) (v : Byte) : (s.withRplen v).tpReplies = s.tpReplies := rfl
@[simp] theorem withRplen_tpCalls (s : State) (v : Byte) : (s.withRplen v).tpCalls = s.tpCalls := rfl

/-! ### `withSession` -/

@[simp] theorem withSession_addr (s : State) (c p : Bool) (d f : Byte) : (s.withSession c p d f).addr = s.addr := rfl
@[simp] theorem withSession_func (s : State) (c p : Bool) (d f : Byte) : (s.withSession c p d f).func = s.func := rfl
@[simp] theorem withSession_plen (s : State) (c p : Bool) (d f : Byte) : (s.withSession c p d f).plen = s.plen := rfl
@[simp] theorem withSession_clen (s : State) (c p : Bool) (d f : Byte) : (s.withSession c p d f).clen = s.clen := rfl
@[simp] theorem withSession_rxlen (s : State) (c p : Bool) (d f : Byte) : (s.withSession c p d f).rxlen = s.rxlen := rfl
@[simp] theorem withSession_exp (s : State) (c p : Bool) (d f : Byte) : (s.withSession c p d f).exp = s.exp := rfl
@[simp] theorem withSession_crc (s : State) (c p : Bool) (d f : Byte) : (s.withSession c p d f).crc = s.crc := rfl
@[simp] theorem withSession_txlen (s : State) (c p : Bool) (d f : Byte) : (s.withSession c p d f).txlen = s.txlen := rfl
@[simp] theorem withSession_rplen (s : State) (c p : Bool) (d f : Byte) : (s.withSession c p d f).rplen = s.rplen := rfl
@[simp] theorem withSession_code (s : State) (c p : Bool) (d f : Byte) : (s.withSession c p d f).code = s.code := rfl
@[simp] theorem withSession_matched (s : State) (c p : Bool) (d f : Byte) : (s.withSession c p d f).matched = s.matched := rfl
@[simp] theorem withSession_connected (s : State) (c p : Bool) (d f : Byte) : (s.withSession c p d f).connected = c := rfl
@[simp] theorem withSession_pending (s : State) (c p : Bool) (d f : Byte) : (s.withSession c p d f).pending = p := rfl
@[simp] theorem withSession_devaddr (s : State) (c p : Bool) (d f : Byte) : (s.withSession c p d f).devaddr = d := rfl
@[simp] theorem withSession_pendfunc (s : State) (c p : Bool) (d f : Byte) : (s.withSession c p d f).pendfunc = f := rfl
@[simp] theorem withSession_txbuf (s : State) (c p : Bool) (d f : Byte) : (s.withSession c p d f).txbuf = s.txbuf := rfl
@[simp] theorem withSession_rxbuf (s : State) (c p : Bool) (d f : Byte) : (s.withSession c p d f).rxbuf = s.rxbuf := rfl
@[simp] theorem withSession_epoch (s : State) (c p : Bool) (d f : Byte) : (s.withSession c p d f).epoch = s.epoch := rfl
@[simp] theorem withSession_events (s : State) (c p : Bool) (d f : Byte) : (s.withSession c p d f).events = s.events := rfl
@[simp] theorem withSession_hostReads (s : State) (c p : Bool) (d f : Byte) : (s.withSession c p d f).hostReads = s.hostReads := rfl
@[simp] theorem withSession_tpReplies (s : State) (c p : Bool) (d f : Byte) : (s.withSession c p d f).tpReplies = s.tpReplies := rfl
@[simp] theorem withSession_tpCalls (s : State) (c p : Bool) (d f : Byte) : (s.withSession c p d f).tpCalls = s.tpCalls := rfl

/-! ### `withTxbuf` -/

@[simp] theorem withTxbuf_addr (s : State) (m : Memory) : (s.withTxbuf m).addr = s.addr := rfl
@[simp] theorem withTxbuf_func (s : State) (m : Memory) : (s.withTxbuf m).func = s.func := rfl
@[simp] theorem withTxbuf_plen (s : State) (m : Memory) : (s.withTxbuf m).plen = s.plen := rfl
@[simp] theorem withTxbuf_clen (s : State) (m : Memory) : (s.withTxbuf m).clen = s.clen := rfl
@[simp] theorem withTxbuf_rxlen (s : State) (m : Memory) : (s.withTxbuf m).rxlen = s.rxlen := rfl
@[simp] theorem withTxbuf_exp (s : State) (m : Memory) : (s.withTxbuf m).exp = s.exp := rfl
@[simp] theorem withTxbuf_crc (s : State) (m : Memory) : (s.withTxbuf m).crc = s.crc := rfl
@[simp] theorem withTxbuf_txlen (s : State) (m : Memory) : (s.withTxbuf m).txlen = s.txlen := rfl
@[simp] theorem withTxbuf_rplen (s : State) (m : Memory) : (s.withTxbuf m).rplen = s.rplen := rfl
@[simp] theorem withTxbuf_code (s : State) (m : Memory) : (s.withTxbuf m).code = s.code := rfl
@[simp] theorem withTxbuf_matched (s : State) (m : Memory) : (s.withTxbuf m).matched = s.matched := rfl
@[simp] theorem withTxbuf_connected (s : State) (m : Memory) : (s.withTxbuf m).connected = s.connected := rfl
@[simp] theorem withTxbuf_pending (s : State) (m : Memory) : (s.withTxbuf m).pending = s.pending := rfl
@[simp] theorem withTxbuf_devaddr (s : State) (m : Memory) : (s.withTxbuf m).devaddr = s.devaddr := rfl
@[simp] theorem withTxbuf_pendfunc (s : State) (m : Memory) : (s.withTxbuf m).pendfunc = s.pendfunc := rfl
@[simp] theorem withTxbuf_txbuf (s : State) (m : Memory) : (s.withTxbuf m).txbuf = m := rfl
@[simp] theorem withTxbuf_rxbuf (s : State) (m : Memory) : (s.withTxbuf m).rxbuf = s.rxbuf := rfl
@[simp] theorem withTxbuf_epoch (s : State) (m : Memory) : (s.withTxbuf m).epoch = s.epoch := rfl
@[simp] theorem withTxbuf_events (s : State) (m : Memory) : (s.withTxbuf m).events = s.events := rfl
@[simp] theorem withTxbuf_hostReads (s : State) (m : Memory) : (s.withTxbuf m).hostReads = s.hostReads := rfl
@[simp] theorem withTxbuf_tpReplies (s : State) (m : Memory) : (s.withTxbuf m).tpReplies = s.tpReplies := rfl
@[simp] theorem withTxbuf_tpCalls (s : State) (m : Memory) : (s.withTxbuf m).tpCalls = s.tpCalls := rfl

/-! ### `withRxbuf` -/

@[simp] theorem withRxbuf_addr (s : State) (m : Memory) : (s.withRxbuf m).addr = s.addr := rfl
@[simp] theorem withRxbuf_func (s : State) (m : Memory) : (s.withRxbuf m).func = s.func := rfl
@[simp] theorem withRxbuf_plen (s : State) (m : Memory) : (s.withRxbuf m).plen = s.plen := rfl
@[simp] theorem withRxbuf_clen (s : State) (m : Memory) : (s.withRxbuf m).clen = s.clen := rfl
@[simp] theorem withRxbuf_rxlen (s : State) (m : Memory) : (s.withRxbuf m).rxlen = s.rxlen := rfl
@[simp] theorem withRxbuf_exp (s : State) (m : Memory) : (s.withRxbuf m).exp = s.exp := rfl
@[simp] theorem withRxbuf_crc (s : State) (m : Memory) : (s.withRxbuf m).crc = s.crc := rfl
@[simp] theorem withRxbuf_txlen (s : State) (m : Memory) : (s.withRxbuf m).txlen = s.txlen := rfl
@[simp] theorem withRxbuf_rplen (s : State) (m : Memory) : (s.withRxbuf m).rplen = s.rplen := rfl
@[simp] theorem withRxbuf_code (s : State) (m : Memory) : (s.withRxbuf m).code = s.code := rfl
@[simp] theorem withRxbuf_matched (s : State) (m : Memory) : (s.withRxbuf m).matched = s.matched := rfl
@[simp] theorem withRxbuf_connected (s : State) (m : Memory) : (s.withRxbuf m).connected = s.connected := rfl
@[simp] theorem withRxbuf_pending (s : State) (m : Memory) : (s.withRxbuf m).pending = s.pending := rfl
@[simp] theorem withRxbuf_devaddr (s : State) (m : Memory) : (s.withRxbuf m).devaddr = s.devaddr := rfl
@[simp] theorem withRxbuf_pendfunc (s : State) (m : Memory) : (s.withRxbuf m).pendfunc = s.pendfunc := rfl
@[simp] theorem withRxbuf_txbuf (s : State) (m : Memory) : (s.withRxbuf m).txbuf = s.txbuf := rfl
@[simp] theorem withRxbuf_rxbuf (s : State) (m : Memory) : (s.withRxbuf m).rxbuf = m := rfl
@[simp] theorem withRxbuf_epoch (s : State) (m : Memory) : (s.withRxbuf m).epoch = s.epoch := rfl
@[simp] theorem withRxbuf_events (s : State) (m : Memory) : (s.withRxbuf m).events = s.events := rfl
@[simp] theorem withRxbuf_hostReads (s : State) (m : Memory) : (s.withRxbuf m).hostReads = s.hostReads := rfl
@[simp] theorem withRxbuf_tpReplies (s : State) (m : Memory) : (s.withRxbuf m).tpReplies = s.tpReplies := rfl
@[simp] theorem withRxbuf_tpCalls (s : State) (m : Memory) : (s.withRxbuf m).tpCalls = s.tpCalls := rfl

/-! ### `withEvents` -/

@[simp] theorem withEvents_addr (s : State) (es : List Event) : (s.withEvents es).addr = s.addr := rfl
@[simp] theorem withEvents_func (s : State) (es : List Event) : (s.withEvents es).func = s.func := rfl
@[simp] theorem withEvents_plen (s : State) (es : List Event) : (s.withEvents es).plen = s.plen := rfl
@[simp] theorem withEvents_clen (s : State) (es : List Event) : (s.withEvents es).clen = s.clen := rfl
@[simp] theorem withEvents_rxlen (s : State) (es : List Event) : (s.withEvents es).rxlen = s.rxlen := rfl
@[simp] theorem withEvents_exp (s : State) (es : List Event) : (s.withEvents es).exp = s.exp := rfl
@[simp] theorem withEvents_crc (s : State) (es : List Event) : (s.withEvents es).crc = s.crc := rfl
@[simp] theorem withEvents_txlen (s : State) (es : List Event) : (s.withEvents es).txlen = s.txlen := rfl
@[simp] theorem withEvents_rplen (s : State) (es : List Event) : (s.withEvents es).rplen = s.rplen := rfl
@[simp] theorem withEvents_code (s : State) (es : List Event) : (s.withEvents es).code = s.code := rfl
@[simp] theorem withEvents_matched (s : State) (es : List Event) : (s.withEvents es).matched = s.matched := rfl
@[simp] theorem withEvents_connected (s : State) (es : List Event) : (s.withEvents es).connected = s.connected := rfl
@[simp] theorem withEvents_pending (s : State) (es : List Event) : (s.withEvents es).pending = s.pending := rfl
@[simp] theorem withEvents_devaddr (s : State) (es : List Event) : (s.withEvents es).devaddr = s.devaddr := rfl
@[simp] theorem withEvents_pendfunc (s : State) (es : List Event) : (s.withEvents es).pendfunc = s.pendfunc := rfl
@[simp] theorem withEvents_txbuf (s : State) (es : List Event) : (s.withEvents es).txbuf = s.txbuf := rfl
@[simp] theorem withEvents_rxbuf (s : State) (es : List Event) : (s.withEvents es).rxbuf = s.rxbuf := rfl
@[simp] theorem withEvents_epoch (s : State) (es : List Event) : (s.withEvents es).epoch = s.epoch := rfl
@[simp] theorem withEvents_events (s : State) (es : List Event) : (s.withEvents es).events = es := rfl
@[simp] theorem withEvents_hostReads (s : State) (es : List Event) : (s.withEvents es).hostReads = s.hostReads := rfl
@[simp] theorem withEvents_tpReplies (s : State) (es : List Event) : (s.withEvents es).tpReplies = s.tpReplies := rfl
@[simp] theorem withEvents_tpCalls (s : State) (es : List Event) : (s.withEvents es).tpCalls = s.tpCalls := rfl

/-! ### `withReads` -/

@[simp] theorem withReads_addr (s : State) (vs : List Word) : (s.withReads vs).addr = s.addr := rfl
@[simp] theorem withReads_func (s : State) (vs : List Word) : (s.withReads vs).func = s.func := rfl
@[simp] theorem withReads_plen (s : State) (vs : List Word) : (s.withReads vs).plen = s.plen := rfl
@[simp] theorem withReads_clen (s : State) (vs : List Word) : (s.withReads vs).clen = s.clen := rfl
@[simp] theorem withReads_rxlen (s : State) (vs : List Word) : (s.withReads vs).rxlen = s.rxlen := rfl
@[simp] theorem withReads_exp (s : State) (vs : List Word) : (s.withReads vs).exp = s.exp := rfl
@[simp] theorem withReads_crc (s : State) (vs : List Word) : (s.withReads vs).crc = s.crc := rfl
@[simp] theorem withReads_txlen (s : State) (vs : List Word) : (s.withReads vs).txlen = s.txlen := rfl
@[simp] theorem withReads_rplen (s : State) (vs : List Word) : (s.withReads vs).rplen = s.rplen := rfl
@[simp] theorem withReads_code (s : State) (vs : List Word) : (s.withReads vs).code = s.code := rfl
@[simp] theorem withReads_matched (s : State) (vs : List Word) : (s.withReads vs).matched = s.matched := rfl
@[simp] theorem withReads_connected (s : State) (vs : List Word) : (s.withReads vs).connected = s.connected := rfl
@[simp] theorem withReads_pending (s : State) (vs : List Word) : (s.withReads vs).pending = s.pending := rfl
@[simp] theorem withReads_devaddr (s : State) (vs : List Word) : (s.withReads vs).devaddr = s.devaddr := rfl
@[simp] theorem withReads_pendfunc (s : State) (vs : List Word) : (s.withReads vs).pendfunc = s.pendfunc := rfl
@[simp] theorem withReads_txbuf (s : State) (vs : List Word) : (s.withReads vs).txbuf = s.txbuf := rfl
@[simp] theorem withReads_rxbuf (s : State) (vs : List Word) : (s.withReads vs).rxbuf = s.rxbuf := rfl
@[simp] theorem withReads_epoch (s : State) (vs : List Word) : (s.withReads vs).epoch = s.epoch := rfl
@[simp] theorem withReads_events (s : State) (vs : List Word) : (s.withReads vs).events = s.events := rfl
@[simp] theorem withReads_hostReads (s : State) (vs : List Word) : (s.withReads vs).hostReads = vs := rfl
@[simp] theorem withReads_tpReplies (s : State) (vs : List Word) : (s.withReads vs).tpReplies = s.tpReplies := rfl
@[simp] theorem withReads_tpCalls (s : State) (vs : List Word) : (s.withReads vs).tpCalls = s.tpCalls := rfl

/-! ### `withTp` -/

@[simp] theorem withTp_addr (s : State) (rs : List Reply) (cs : List TpCall) : (s.withTp rs cs).addr = s.addr := rfl
@[simp] theorem withTp_func (s : State) (rs : List Reply) (cs : List TpCall) : (s.withTp rs cs).func = s.func := rfl
@[simp] theorem withTp_plen (s : State) (rs : List Reply) (cs : List TpCall) : (s.withTp rs cs).plen = s.plen := rfl
@[simp] theorem withTp_clen (s : State) (rs : List Reply) (cs : List TpCall) : (s.withTp rs cs).clen = s.clen := rfl
@[simp] theorem withTp_rxlen (s : State) (rs : List Reply) (cs : List TpCall) : (s.withTp rs cs).rxlen = s.rxlen := rfl
@[simp] theorem withTp_exp (s : State) (rs : List Reply) (cs : List TpCall) : (s.withTp rs cs).exp = s.exp := rfl
@[simp] theorem withTp_crc (s : State) (rs : List Reply) (cs : List TpCall) : (s.withTp rs cs).crc = s.crc := rfl
@[simp] theorem withTp_txlen (s : State) (rs : List Reply) (cs : List TpCall) : (s.withTp rs cs).txlen = s.txlen := rfl
@[simp] theorem withTp_rplen (s : State) (rs : List Reply) (cs : List TpCall) : (s.withTp rs cs).rplen = s.rplen := rfl
@[simp] theorem withTp_code (s : State) (rs : List Reply) (cs : List TpCall) : (s.withTp rs cs).code = s.code := rfl
@[simp] theorem withTp_matched (s : State) (rs : List Reply) (cs : List TpCall) : (s.withTp rs cs).matched = s.matched := rfl
@[simp] theorem withTp_connected (s : State) (rs : List Reply) (cs : List TpCall) : (s.withTp rs cs).connected = s.connected := rfl
@[simp] theorem withTp_pending (s : State) (rs : List Reply) (cs : List TpCall) : (s.withTp rs cs).pending = s.pending := rfl
@[simp] theorem withTp_devaddr (s : State) (rs : List Reply) (cs : List TpCall) : (s.withTp rs cs).devaddr = s.devaddr := rfl
@[simp] theorem withTp_pendfunc (s : State) (rs : List Reply) (cs : List TpCall) : (s.withTp rs cs).pendfunc = s.pendfunc := rfl
@[simp] theorem withTp_txbuf (s : State) (rs : List Reply) (cs : List TpCall) : (s.withTp rs cs).txbuf = s.txbuf := rfl
@[simp] theorem withTp_rxbuf (s : State) (rs : List Reply) (cs : List TpCall) : (s.withTp rs cs).rxbuf = s.rxbuf := rfl
@[simp] theorem withTp_epoch (s : State) (rs : List Reply) (cs : List TpCall) : (s.withTp rs cs).epoch = s.epoch := rfl
@[simp] theorem withTp_events (s : State) (rs : List Reply) (cs : List TpCall) : (s.withTp rs cs).events = s.events := rfl
@[simp] theorem withTp_hostReads (s : State) (rs : List Reply) (cs : List TpCall) : (s.withTp rs cs).hostReads = s.hostReads := rfl
@[simp] theorem withTp_tpReplies (s : State) (rs : List Reply) (cs : List TpCall) : (s.withTp rs cs).tpReplies = rs := rfl
@[simp] theorem withTp_tpCalls (s : State) (rs : List Reply) (cs : List TpCall) : (s.withTp rs cs).tpCalls = cs := rfl

/-! ### `setTxByte` -/

@[simp] theorem setTxByte_addr (s : State) (i : Nat) (b : Byte) : (s.setTxByte i b).addr = s.addr := rfl
@[simp] theorem setTxByte_func (s : State) (i : Nat) (b : Byte) : (s.setTxByte i b).func = s.func := rfl
@[simp] theorem setTxByte_plen (s : State) (i : Nat) (b : Byte) : (s.setTxByte i b).plen = s.plen := rfl
@[simp] theorem setTxByte_clen (s : State) (i : Nat) (b : Byte) : (s.setTxByte i b).clen = s.clen := rfl
@[simp] theorem setTxByte_rxlen (s : State) (i : Nat) (b : Byte) : (s.setTxByte i b).rxlen = s.rxlen := rfl
@[simp] theorem setTxByte_exp (s : State) (i : Nat) (b : Byte) : (s.setTxByte i b).exp = s.exp := rfl
@[simp] theorem setTxByte_crc (s : State) (i : Nat) (b : Byte) : (s.setTxByte i b).crc = s.crc := rfl
@[simp] theorem setTxByte_txlen (s : State) (i : Nat) (b : Byte) : (s.setTxByte i b).txlen = s.txlen := rfl
@[simp] theorem setTxByte_rplen (s : State) (i : Nat) (b : Byte) : (s.setTxByte i b).rplen = s.rplen := rfl
@[simp] theorem setTxByte_code (s : State) (i : Nat) (b : Byte) : (s.setTxByte i b).code = s.code := rfl
@[simp] theorem setTxByte_matched (s : State) (i : Nat) (b : Byte) : (s.setTxByte i b).matched = s.matched := rfl
@[simp] theorem setTxByte_connected (s : State) (i : Nat) (b : Byte) : (s.setTxByte i b).connected = s.connected := rfl
@[simp] theorem setTxByte_pending (s : State) (i : Nat) (b : Byte) : (s.setTxByte i b).pending = s.pending := rfl
@[simp] theorem setTxByte_devaddr (s : State) (i : Nat) (b : Byte) : (s.setTxByte i b).devaddr = s.devaddr := rfl
@[simp] theorem setTxByte_pendfunc (s : State) (i : Nat) (b : Byte) : (s.setTxByte i b).pendfunc = s.pendfunc := rfl
@[simp] theorem setTxByte_txbuf (s : State) (i : Nat) (b : Byte) : (s.setTxByte i b).txbuf = s.txbuf.set i b := rfl
@[simp] theorem setTxByte_rxbuf (s : State) (i : Nat) (b : Byte) : (s.setTxByte i b).rxbuf = s.rxbuf := rfl
@[simp] theorem setTxByte_epoch (s : State) (i : Nat) (b : Byte) : (s.setTxByte i b).epoch = s.epoch := rfl
@[simp] theorem setTxByte_events (s : State) (i : Nat) (b : Byte) : (s.setTxByte i b).events = s.events := rfl
@[simp] theorem setTxByte_hostReads (s : State) (i : Nat) (b : Byte) : (s.setTxByte i b).hostReads = s.hostReads := rfl
@[simp] theorem setTxByte_tpReplies (s : State) (i : Nat) (b : Byte) : (s.setTxByte i b).tpReplies = s.tpReplies := rfl
@[simp] theorem setTxByte_tpCalls (s : State) (i : Nat) (b : Byte) : (s.setTxByte i b).tpCalls = s.tpCalls := rfl

/-! ### `setRxByte` -/

@[simp] theorem setRxByte_addr (s : State) (i : Nat) (b : Byte) : (s.setRxByte i b).addr = s.addr := rfl
@[simp] theorem setRxByte_func (s : State) (i : Nat) (b : Byte) : (s.setRxByte i b).func = s.func := rfl
@[simp] theorem setRxByte_plen (s : State) (i : Nat) (b : Byte) : (s.setRxByte i b).plen = s.plen := rfl
@[simp] theorem setRxByte_clen (s : State) (i : Nat) (b : Byte) : (s.setRxByte i b).clen = s.clen := rfl
@[simp] theorem setRxByte_rxlen (s : State) (i : Nat) (b : Byte) : (s.setRxByte i b).rxlen = s.rxlen := rfl
@[simp] theorem setRxByte_exp (s : State) (i : Nat) (b : Byte) : (s.setRxByte i b).exp = s.exp := rfl
@[simp] theorem setRxByte_crc (s : State) (i : Nat) (b : Byte) : (s.setRxByte i b).crc = s.crc := rfl
@[simp] theorem setRxByte_txlen (s : State) (i : Nat) (b : Byte) : (s.setRxByte i b).txlen = s.txlen := rfl
@[simp] theorem setRxByte_rplen (s : State) (i : Nat) (b : Byte) : (s.setRxByte i b).rplen = s.rplen := rfl
@[simp] theorem setRxByte_code (s : State) (i : Nat) (b : Byte) : (s.setRxByte i b).code = s.code := rfl
@[simp] theorem setRxByte_matched (s : State) (i : Nat) (b : Byte) : (s.setRxByte i b).matched = s.matched := rfl
@[simp] theorem setRxByte_connected (s : State) (i : Nat) (b : Byte) : (s.setRxByte i b).connected = s.connected := rfl
@[simp] theorem setRxByte_pending (s : State) (i : Nat) (b : Byte) : (s.setRxByte i b).pending = s.pending := rfl
@[simp] theorem setRxByte_devaddr (s : State) (i : Nat) (b : Byte) : (s.setRxByte i b).devaddr = s.devaddr := rfl
@[simp] theorem setRxByte_pendfunc (s : State) (i : Nat) (b : Byte) : (s.setRxByte i b).pendfunc = s.pendfunc := rfl
@[simp] theorem setRxByte_txbuf (s : State) (i : Nat) (b : Byte) : (s.setRxByte i b).txbuf = s.txbuf := rfl
@[simp] theorem setRxByte_rxbuf (s : State) (i : Nat) (b : Byte) : (s.setRxByte i b).rxbuf = s.rxbuf.set i b := rfl
@[simp] theorem setRxByte_epoch (s : State) (i : Nat) (b : Byte) : (s.setRxByte i b).epoch = s.epoch := rfl
@[simp] theorem setRxByte_events (s : State) (i : Nat) (b : Byte) : (s.setRxByte i b).events = s.events := rfl
@[simp] theorem setRxByte_hostReads (s : State) (i : Nat) (b : Byte) : (s.setRxByte i b).hostReads = s.hostReads := rfl
@[simp] theorem setRxByte_tpReplies (s : State) (i : Nat) (b : Byte) : (s.setRxByte i b).tpReplies = s.tpReplies := rfl
@[simp] theorem setRxByte_tpCalls (s : State) (i : Nat) (b : Byte) : (s.setRxByte i b).tpCalls = s.tpCalls := rfl

/-! ### `loadRx` -/

@[simp] theorem loadRx_addr (s : State) (r : List Byte) : (s.loadRx r).addr = s.addr := rfl
@[simp] theorem loadRx_func (s : State) (r : List Byte) : (s.loadRx r).func = s.func := rfl
@[simp] theorem loadRx_plen (s : State) (r : List Byte) : (s.loadRx r).plen = s.plen := rfl
@[simp] theorem loadRx_clen (s : State) (r : List Byte) : (s.loadRx r).clen = s.clen := rfl
@[simp] theorem loadRx_rxlen (s : State) (r : List Byte) : (s.loadRx r).rxlen = s.rxlen := rfl
@[simp] theorem loadRx_exp (s : State) (r : List Byte) : (s.loadRx r).exp = s.exp := rfl
@[simp] theorem loadRx_crc (s : State) (r : List Byte) : (s.loadRx r).crc = s.crc := rfl
@[simp] theorem loadRx_txlen (s : State) (r : List Byte) : (s.loadRx r).txlen = s.txlen := rfl
@[simp] theorem loadRx_rplen (s : State) (r : List Byte) : (s.loadRx r).rplen = s.rplen := rfl
@[simp] theorem loadRx_code (s : State) (r : List Byte) : (s.loadRx r).code = s.code := rfl
@[simp] theorem loadRx_matched (s : State) (r : List Byte) : (s.loadRx r).matched = s.matched := rfl
@[simp] theorem loadRx_connected (s : State) (r : List Byte) : (s.loadRx r).connected = s.connected := rfl
@[simp] theorem loadRx_pending (s : State) (r : List Byte) : (s.loadRx r).pending = s.pending := rfl
@[simp] theorem loadRx_devaddr (s : State) (r : List Byte) : (s.loadRx r).devaddr = s.devaddr := rfl
@[simp] theorem loadRx_pendfunc (s : State) (r : List Byte) : (s.loadRx r).pendfunc = s.pendfunc := rfl
@[simp] theorem loadRx_txbuf (s : State) (r : List Byte) : (s.loadRx r).txbuf = s.txbuf := rfl
@[simp] theorem loadRx_rxbuf (s : State) (r : List Byte) : (s.loadRx r).rxbuf = s.rxbuf.setFrom 0 r := rfl
@[simp] theorem loadRx_epoch (s : State) (r : List Byte) : (s.loadRx r).epoch = s.epoch := rfl
@[simp] theorem loadRx_events (s : State) (r : List Byte) : (s.loadRx r).events = s.events := rfl
@[simp] theorem loadRx_hostReads (s : State) (r : List Byte) : (s.loadRx r).hostReads = s.hostReads := rfl
@[simp] theorem loadRx_tpReplies (s : State) (r : List Byte) : (s.loadRx r).tpReplies = s.tpReplies := rfl
@[simp] theorem loadRx_tpCalls (s : State) (r : List Byte) : (s.loadRx r).tpCalls = s.tpCalls := rfl

/-! ### `issue` -/

@[simp] theorem issue_addr (s : State) (c : TpCall) : (s.issue c).addr = s.addr := rfl
@[simp] theorem issue_func (s : State) (c : TpCall) : (s.issue c).func = s.func := rfl
@[simp] theorem issue_plen (s : State) (c : TpCall) : (s.issue c).plen = s.plen := rfl
@[simp] theorem issue_clen (s : State) (c : TpCall) : (s.issue c).clen = s.clen := rfl
@[simp] theorem issue_rxlen (s : State) (c : TpCall) : (s.issue c).rxlen = s.rxlen := rfl
@[simp] theorem issue_exp (s : State) (c : TpCall) : (s.issue c).exp = s.exp := rfl
@[simp] theorem issue_crc (s : State) (c : TpCall) : (s.issue c).crc = s.crc := rfl
@[simp] theorem issue_txlen (s : State) (c : TpCall) : (s.issue c).txlen = s.txlen := rfl
@[simp] theorem issue_rplen (s : State) (c : TpCall) : (s.issue c).rplen = s.rplen := rfl
@[simp] theorem issue_code (s : State) (c : TpCall) : (s.issue c).code = s.code := rfl
@[simp] theorem issue_matched (s : State) (c : TpCall) : (s.issue c).matched = s.matched := rfl
@[simp] theorem issue_connected (s : State) (c : TpCall) : (s.issue c).connected = s.connected := rfl
@[simp] theorem issue_pending (s : State) (c : TpCall) : (s.issue c).pending = s.pending := rfl
@[simp] theorem issue_devaddr (s : State) (c : TpCall) : (s.issue c).devaddr = s.devaddr := rfl
@[simp] theorem issue_pendfunc (s : State) (c : TpCall) : (s.issue c).pendfunc = s.pendfunc := rfl
@[simp] theorem issue_txbuf (s : State) (c : TpCall) : (s.issue c).txbuf = s.txbuf := rfl
@[simp] theorem issue_rxbuf (s : State) (c : TpCall) : (s.issue c).rxbuf = s.rxbuf := rfl
@[simp] theorem issue_epoch (s : State) (c : TpCall) : (s.issue c).epoch = s.epoch := rfl
@[simp] theorem issue_events (s : State) (c : TpCall) : (s.issue c).events = s.events := rfl
@[simp] theorem issue_hostReads (s : State) (c : TpCall) : (s.issue c).hostReads = s.hostReads := rfl
@[simp] theorem issue_tpReplies (s : State) (c : TpCall) : (s.issue c).tpReplies = s.tpReplies.tail := rfl
@[simp] theorem issue_tpCalls (s : State) (c : TpCall) : (s.issue c).tpCalls = c :: s.tpCalls := rfl

/-! ### the reset -/

@[simp] theorem resetBlock_addr (s : State) : (resetBlock s).addr = 0 := rfl
@[simp] theorem resetBlock_func (s : State) : (resetBlock s).func = 0 := rfl
@[simp] theorem resetBlock_plen (s : State) : (resetBlock s).plen = 0 := rfl
@[simp] theorem resetBlock_clen (s : State) : (resetBlock s).clen = 0 := rfl
@[simp] theorem resetBlock_rxlen (s : State) : (resetBlock s).rxlen = 0 := rfl
@[simp] theorem resetBlock_exp (s : State) : (resetBlock s).exp = 0 := rfl
@[simp] theorem resetBlock_crc (s : State) : (resetBlock s).crc = 0xFFFF := rfl
@[simp] theorem resetBlock_txlen (s : State) : (resetBlock s).txlen = 0 := rfl
@[simp] theorem resetBlock_rplen (s : State) : (resetBlock s).rplen = 0 := rfl
@[simp] theorem resetBlock_code (s : State) : (resetBlock s).code = .ok := rfl
@[simp] theorem resetBlock_matched (s : State) : (resetBlock s).matched = false := rfl
@[simp] theorem resetBlock_connected (s : State) : (resetBlock s).connected = false := rfl
@[simp] theorem resetBlock_pending (s : State) : (resetBlock s).pending = false := rfl
@[simp] theorem resetBlock_devaddr (s : State) : (resetBlock s).devaddr = 0 := rfl
@[simp] theorem resetBlock_pendfunc (s : State) : (resetBlock s).pendfunc = 0 := rfl
@[simp] theorem resetBlock_txbuf (s : State) : (resetBlock s).txbuf = [] := rfl
@[simp] theorem resetBlock_rxbuf (s : State) : (resetBlock s).rxbuf = [] := rfl
@[simp] theorem resetBlock_epoch (s : State) : (resetBlock s).epoch = s.epoch + 1 := rfl
@[simp] theorem resetBlock_events (s : State) : (resetBlock s).events = s.events := rfl
@[simp] theorem resetBlock_hostReads (s : State) : (resetBlock s).hostReads = s.hostReads := rfl
@[simp] theorem resetBlock_tpReplies (s : State) : (resetBlock s).tpReplies = s.tpReplies := rfl
@[simp] theorem resetBlock_tpCalls (s : State) : (resetBlock s).tpCalls = s.tpCalls := rfl

/-! ### Two writes of one register: the later one stands -/

@[simp] theorem withCode_withCode (s : State) (j k : StatusCode) : (s.withCode j).withCode k = s.withCode k := rfl

/-- `complete` is the one write of `STATUS.CODE` (60_exceptions.md R206). -/
@[simp] theorem complete_eq (k : StatusCode) (s : State) : complete k s = s.withCode k := rfl

end Sys2Proof.Machine.State
end

