-- ==== Sys2Proof/Laws/Memory.lean ====
section
/-! SUPPORT. Laws of a buffer's list of written bytes: read after write, and the canonical form is kept. -/

namespace Sys2Proof.Machine

theorem Memory.get_set (m : Memory) (i j : Nat) (b : Byte) :
    (m.set i b).get j = if i = j then some b else m.get j := by
  induction m with
  | nil => simp [Memory.set, Memory.get]
  | cons e m ih =>
    obtain ⟨k, c⟩ := e
    simp only [Memory.set]
    split
    · simp [Memory.get]
    · split
      · subst_vars; simp only [Memory.get]; split <;> rfl
      · simp only [Memory.get, ih]; split <;> split <;> first | rfl | omega

theorem Memory.get_setFrom (m : Memory) (a j : Nat) (bs : List Byte) :
    (m.setFrom a bs).get j = if a ≤ j ∧ j < a + bs.length then bs[j - a]? else m.get j := by
  induction bs generalizing m a with
  | nil =>
    have : ¬ (a ≤ j ∧ j < a + ([] : List Byte).length) := by simp
    simp only [Memory.setFrom, if_neg this]
  | cons b bs ih =>
    simp only [Memory.setFrom, ih, Memory.get_set, List.length_cons]
    by_cases h : a = j
    · subst h; simp
    · by_cases h' : a + 1 ≤ j ∧ j < a + 1 + bs.length
      · obtain ⟨d, rfl⟩ : ∃ d, j = a + 1 + d := ⟨j - (a + 1), by omega⟩
        rw [if_pos h', if_pos (by omega)]
        simp [show a + 1 + d - a = d + 1 by omega, show a + 1 + d - (a + 1) = d by omega]
      · rw [if_neg h', if_neg h, if_neg (by omega)]

theorem Memory.above_set (m : Memory) (i k : Nat) (b : Byte) (h : m.above k = true) (hk : k < i) :
    (m.set i b).above k = true := by
  cases m with
  | nil => simpa [Memory.set, Memory.above] using hk
  | cons e m =>
    obtain ⟨j, c⟩ := e
    simp only [Memory.set]
    split
    · simpa [Memory.above] using hk
    · split
      · simpa [Memory.above] using hk
      · simpa [Memory.above] using h

/-- A write inside the buffer keeps the canonical form. -/
theorem Memory.wf_set (m : Memory) (i : Nat) (b : Byte) (h : m.wf = true) (hi : i < 256) :
    (m.set i b).wf = true := by
  induction m with
  | nil => simp [Memory.set, Memory.wf, Memory.above, Config.bufferSize, hi]
  | cons e m ih =>
    obtain ⟨k, c⟩ := e
    simp only [Memory.wf, Bool.and_eq_true, decide_eq_true_eq] at h
    simp only [Memory.set]
    split
    · rename_i hik
      simp only [Memory.wf, Bool.and_eq_true, decide_eq_true_eq]
      exact ⟨⟨hi, by simpa [Memory.above] using hik⟩, h⟩
    · split
      · subst_vars; simp [Memory.wf, h]
      · simp only [Memory.wf, Bool.and_eq_true, decide_eq_true_eq]
        exact ⟨⟨h.1.1, Memory.above_set m i k b h.1.2 (by omega)⟩, ih h.2⟩

/-- Bytes written inside the buffer keep the canonical form. -/
theorem Memory.wf_setFrom (m : Memory) (a : Nat) (bs : List Byte) (h : m.wf = true)
    (ha : a + bs.length ≤ 256) : (m.setFrom a bs).wf = true := by
  induction bs generalizing m a with
  | nil => simpa [Memory.setFrom] using h
  | cons b bs ih =>
    simp only [List.length_cons] at ha
    exact ih _ _ (Memory.wf_set m a b h (by omega)) (by omega)

/-- In canonical form, equal reads are equal data. -/
theorem Memory.ext_of_wf (m n : Memory) (hm : m.wf = true) (hn : n.wf = true)
    (h : ∀ i, m.get i = n.get i) : m = n := by
  have get_above : ∀ (q : Memory) (k i : Nat), q.wf = true → q.above k = true → i ≤ k → q.get i = none := by
    intro q
    induction q with
    | nil => intros; rfl
    | cons e q ih =>
      obtain ⟨j, c⟩ := e
      intro k i hq hk hi
      simp only [Memory.above, decide_eq_true_eq, Memory.wf, Bool.and_eq_true] at hk hq
      simp only [Memory.get, if_neg (show ¬ j = i by omega)]
      exact ih j i hq.2 hq.1.2 (by omega)
  induction m generalizing n with
  | nil =>
    cases n with
    | nil => rfl
    | cons e n => obtain ⟨k, c⟩ := e; have := h k; simp [Memory.get] at this
  | cons e m ih =>
    obtain ⟨k, c⟩ := e
    cases n with
    | nil => have := h k; simp [Memory.get] at this
    | cons e' n =>
      obtain ⟨k', c'⟩ := e'
      simp only [Memory.wf, Bool.and_eq_true, decide_eq_true_eq] at hm hn
      have hk : k = k' := by
        rcases Nat.lt_trichotomy k k' with hlt | heq | hgt
        · have := h k
          simp only [Memory.get, if_true, if_neg (show ¬ k' = k by omega),
            get_above n k' k hn.2 hn.1.2 (by omega)] at this
          cases this
        · exact heq
        · have := h k'
          simp only [Memory.get, if_true, if_neg (show ¬ k = k' by omega),
            get_above m k k' hm.2 hm.1.2 (by omega)] at this
          cases this
      subst hk
      have hc : c = c' := by simpa [Memory.get] using h k
      subst hc
      congr 1
      refine ih n hm.2 hn.2 fun i => ?_
      by_cases hi : k = i
      · subst hi
        rw [get_above m k k hm.2 hm.1.2 (Nat.le_refl _), get_above n k k hn.2 hn.1.2 (Nat.le_refl _)]
      · simpa [Memory.get, hi] using h i

end Sys2Proof.Machine
end

