-- ==== Sys2Proof/Laws/Buffers.lean ====
section
/-! SUPPORT. Laws of the buffer reads `txByte`, `rxByte` and slices under every update of State. -/

namespace Sys2Proof.Machine.State

/-! ### Updates that write no byte of the buffer read -/

@[simp] theorem withCode_txByte (s : State) (k : StatusCode) (j : Nat) : (s.withCode k).txByte j = s.txByte j := rfl
@[simp] theorem withMatch_txByte (s : State) (b : Bool) (j : Nat) : (s.withMatch b).txByte j = s.txByte j := rfl
@[simp] theorem withAddr_txByte (s : State) (v : Byte) (j : Nat) : (s.withAddr v).txByte j = s.txByte j := rfl
@[simp] theorem withFunc_txByte (s : State) (v : Byte) (j : Nat) : (s.withFunc v).txByte j = s.txByte j := rfl
@[simp] theorem withPlen_txByte (s : State) (v : Byte) (j : Nat) : (s.withPlen v).txByte j = s.txByte j := rfl
@[simp] theorem withClen_txByte (s : State) (v : Len9) (j : Nat) : (s.withClen v).txByte j = s.txByte j := rfl
@[simp] theorem withRxlen_txByte (s : State) (v : Len9) (j : Nat) : (s.withRxlen v).txByte j = s.txByte j := rfl
@[simp] theorem withExp_txByte (s : State) (v : Crc16) (j : Nat) : (s.withExp v).txByte j = s.txByte j := rfl
@[simp] theorem withCrc_txByte (s : State) (v : Crc16) (j : Nat) : (s.withCrc v).txByte j = s.txByte j := rfl
@[simp] theorem withTxlen_txByte (s : State) (v : Len9) (j : Nat) : (s.withTxlen v).txByte j = s.txByte j := rfl
@[simp] theorem withRplen_txByte (s : State) (v : Byte) (j : Nat) : (s.withRplen v).txByte j = s.txByte j := rfl
@[simp] theorem withSession_txByte (s : State) (c p : Bool) (d f : Byte) (j : Nat) : (s.withSession c p d f).txByte j = s.txByte j := rfl
@[simp] theorem withRxbuf_txByte (s : State) (m : Memory) (j : Nat) : (s.withRxbuf m).txByte j = s.txByte j := rfl
@[simp] theorem withEvents_txByte (s : State) (es : List Event) (j : Nat) : (s.withEvents es).txByte j = s.txByte j := rfl
@[simp] theorem withReads_txByte (s : State) (vs : List Word) (j : Nat) : (s.withReads vs).txByte j = s.txByte j := rfl
@[simp] theorem withTp_txByte (s : State) (rs : List Reply) (cs : List TpCall) (j : Nat) : (s.withTp rs cs).txByte j = s.txByte j := rfl
@[simp] theorem setRxByte_txByte (s : State) (i : Nat) (b : Byte) (j : Nat) : (s.setRxByte i b).txByte j = s.txByte j := rfl
@[simp] theorem loadRx_txByte (s : State) (r : List Byte) (j : Nat) : (s.loadRx r).txByte j = s.txByte j := rfl
@[simp] theorem issue_txByte (s : State) (c : TpCall) (j : Nat) : (s.issue c).txByte j = s.txByte j := rfl
@[simp] theorem withCode_rxByte (s : State) (k : StatusCode) (j : Nat) : (s.withCode k).rxByte j = s.rxByte j := rfl
@[simp] theorem withMatch_rxByte (s : State) (b : Bool) (j : Nat) : (s.withMatch b).rxByte j = s.rxByte j := rfl
@[simp] theorem withAddr_rxByte (s : State) (v : Byte) (j : Nat) : (s.withAddr v).rxByte j = s.rxByte j := rfl
@[simp] theorem withFunc_rxByte (s : State) (v : Byte) (j : Nat) : (s.withFunc v).rxByte j = s.rxByte j := rfl
@[simp] theorem withPlen_rxByte (s : State) (v : Byte) (j : Nat) : (s.withPlen v).rxByte j = s.rxByte j := rfl
@[simp] theorem withClen_rxByte (s : State) (v : Len9) (j : Nat) : (s.withClen v).rxByte j = s.rxByte j := rfl
@[simp] theorem withRxlen_rxByte (s : State) (v : Len9) (j : Nat) : (s.withRxlen v).rxByte j = s.rxByte j := rfl
@[simp] theorem withExp_rxByte (s : State) (v : Crc16) (j : Nat) : (s.withExp v).rxByte j = s.rxByte j := rfl
@[simp] theorem withCrc_rxByte (s : State) (v : Crc16) (j : Nat) : (s.withCrc v).rxByte j = s.rxByte j := rfl
@[simp] theorem withTxlen_rxByte (s : State) (v : Len9) (j : Nat) : (s.withTxlen v).rxByte j = s.rxByte j := rfl
@[simp] theorem withRplen_rxByte (s : State) (v : Byte) (j : Nat) : (s.withRplen v).rxByte j = s.rxByte j := rfl
@[simp] theorem withSession_rxByte (s : State) (c p : Bool) (d f : Byte) (j : Nat) : (s.withSession c p d f).rxByte j = s.rxByte j := rfl
@[simp] theorem withTxbuf_rxByte (s : State) (m : Memory) (j : Nat) : (s.withTxbuf m).rxByte j = s.rxByte j := rfl
@[simp] theorem withEvents_rxByte (s : State) (es : List Event) (j : Nat) : (s.withEvents es).rxByte j = s.rxByte j := rfl
@[simp] theorem withReads_rxByte (s : State) (vs : List Word) (j : Nat) : (s.withReads vs).rxByte j = s.rxByte j := rfl
@[simp] theorem withTp_rxByte (s : State) (rs : List Reply) (cs : List TpCall) (j : Nat) : (s.withTp rs cs).rxByte j = s.rxByte j := rfl
@[simp] theorem setTxByte_rxByte (s : State) (i : Nat) (b : Byte) (j : Nat) : (s.setTxByte i b).rxByte j = s.rxByte j := rfl
@[simp] theorem issue_rxByte (s : State) (c : TpCall) (j : Nat) : (s.issue c).rxByte j = s.rxByte j := rfl

/-- After a reset every byte of `TXBUF` is the free value of the new epoch (10_state.md R25). -/
theorem resetBlock_txByte (s : State) (j : Nat) : (resetBlock s).txByte j = Config.txResetByte (s.epoch + 1) j := rfl

/-- After a reset every byte of `RXBUF` is the free value of the new epoch. -/
theorem resetBlock_rxByte (s : State) (j : Nat) : (resetBlock s).rxByte j = Config.rxResetByte (s.epoch + 1) j := rfl

/-! ### Slices under updates that write no byte of the buffer read -/

@[simp] theorem withCode_txSlice (s : State) (k : StatusCode) (x y : Nat) : (s.withCode k).txSlice x y = s.txSlice x y := rfl
@[simp] theorem withMatch_txSlice (s : State) (b : Bool) (x y : Nat) : (s.withMatch b).txSlice x y = s.txSlice x y := rfl
@[simp] theorem withAddr_txSlice (s : State) (v : Byte) (x y : Nat) : (s.withAddr v).txSlice x y = s.txSlice x y := rfl
@[simp] theorem withFunc_txSlice (s : State) (v : Byte) (x y : Nat) : (s.withFunc v).txSlice x y = s.txSlice x y := rfl
@[simp] theorem withPlen_txSlice (s : State) (v : Byte) (x y : Nat) : (s.withPlen v).txSlice x y = s.txSlice x y := rfl
@[simp] theorem withClen_txSlice (s : State) (v : Len9) (x y : Nat) : (s.withClen v).txSlice x y = s.txSlice x y := rfl
@[simp] theorem withRxlen_txSlice (s : State) (v : Len9) (x y : Nat) : (s.withRxlen v).txSlice x y = s.txSlice x y := rfl
@[simp] theorem withExp_txSlice (s : State) (v : Crc16) (x y : Nat) : (s.withExp v).txSlice x y = s.txSlice x y := rfl
@[simp] theorem withCrc_txSlice (s : State) (v : Crc16) (x y : Nat) : (s.withCrc v).txSlice x y = s.txSlice x y := rfl
@[simp] theorem withTxlen_txSlice (s : State) (v : Len9) (x y : Nat) : (s.withTxlen v).txSlice x y = s.txSlice x y := rfl
@[simp] theorem withRplen_txSlice (s : State) (v : Byte) (x y : Nat) : (s.withRplen v).txSlice x y = s.txSlice x y := rfl
@[simp] theorem withSession_txSlice (s : State) (c p : Bool) (d f : Byte) (x y : Nat) : (s.withSession c p d f).txSlice x y = s.txSlice x y := rfl
@[simp] theorem withRxbuf_txSlice (s : State) (m : Memory) (x y : Nat) : (s.withRxbuf m).txSlice x y = s.txSlice x y := rfl
@[simp] theorem withEvents_txSlice (s : State) (es : List Event) (x y : Nat) : (s.withEvents es).txSlice x y = s.txSlice x y := rfl
@[simp] theorem withReads_txSlice (s : State) (vs : List Word) (x y : Nat) : (s.withReads vs).txSlice x y = s.txSlice x y := rfl
@[simp] theorem withTp_txSlice (s : State) (rs : List Reply) (cs : List TpCall) (x y : Nat) : (s.withTp rs cs).txSlice x y = s.txSlice x y := rfl
@[simp] theorem setRxByte_txSlice (s : State) (i : Nat) (b : Byte) (x y : Nat) : (s.setRxByte i b).txSlice x y = s.txSlice x y := rfl
@[simp] theorem loadRx_txSlice (s : State) (r : List Byte) (x y : Nat) : (s.loadRx r).txSlice x y = s.txSlice x y := rfl
@[simp] theorem issue_txSlice (s : State) (c : TpCall) (x y : Nat) : (s.issue c).txSlice x y = s.txSlice x y := rfl
@[simp] theorem withCode_rxSlice (s : State) (k : StatusCode) (x y : Nat) : (s.withCode k).rxSlice x y = s.rxSlice x y := rfl
@[simp] theorem withMatch_rxSlice (s : State) (b : Bool) (x y : Nat) : (s.withMatch b).rxSlice x y = s.rxSlice x y := rfl
@[simp] theorem withAddr_rxSlice (s : State) (v : Byte) (x y : Nat) : (s.withAddr v).rxSlice x y = s.rxSlice x y := rfl
@[simp] theorem withFunc_rxSlice (s : State) (v : Byte) (x y : Nat) : (s.withFunc v).rxSlice x y = s.rxSlice x y := rfl
@[simp] theorem withPlen_rxSlice (s : State) (v : Byte) (x y : Nat) : (s.withPlen v).rxSlice x y = s.rxSlice x y := rfl
@[simp] theorem withClen_rxSlice (s : State) (v : Len9) (x y : Nat) : (s.withClen v).rxSlice x y = s.rxSlice x y := rfl
@[simp] theorem withRxlen_rxSlice (s : State) (v : Len9) (x y : Nat) : (s.withRxlen v).rxSlice x y = s.rxSlice x y := rfl
@[simp] theorem withExp_rxSlice (s : State) (v : Crc16) (x y : Nat) : (s.withExp v).rxSlice x y = s.rxSlice x y := rfl
@[simp] theorem withCrc_rxSlice (s : State) (v : Crc16) (x y : Nat) : (s.withCrc v).rxSlice x y = s.rxSlice x y := rfl
@[simp] theorem withTxlen_rxSlice (s : State) (v : Len9) (x y : Nat) : (s.withTxlen v).rxSlice x y = s.rxSlice x y := rfl
@[simp] theorem withRplen_rxSlice (s : State) (v : Byte) (x y : Nat) : (s.withRplen v).rxSlice x y = s.rxSlice x y := rfl
@[simp] theorem withSession_rxSlice (s : State) (c p : Bool) (d f : Byte) (x y : Nat) : (s.withSession c p d f).rxSlice x y = s.rxSlice x y := rfl
@[simp] theorem withTxbuf_rxSlice (s : State) (m : Memory) (x y : Nat) : (s.withTxbuf m).rxSlice x y = s.rxSlice x y := rfl
@[simp] theorem withEvents_rxSlice (s : State) (es : List Event) (x y : Nat) : (s.withEvents es).rxSlice x y = s.rxSlice x y := rfl
@[simp] theorem withReads_rxSlice (s : State) (vs : List Word) (x y : Nat) : (s.withReads vs).rxSlice x y = s.rxSlice x y := rfl
@[simp] theorem withTp_rxSlice (s : State) (rs : List Reply) (cs : List TpCall) (x y : Nat) : (s.withTp rs cs).rxSlice x y = s.rxSlice x y := rfl
@[simp] theorem setTxByte_rxSlice (s : State) (i : Nat) (b : Byte) (x y : Nat) : (s.setTxByte i b).rxSlice x y = s.rxSlice x y := rfl
@[simp] theorem issue_rxSlice (s : State) (c : TpCall) (x y : Nat) : (s.issue c).rxSlice x y = s.rxSlice x y := rfl

/-! ### Read after write -/

@[simp] theorem setTxByte_txByte (s : State) (i j : Nat) (b : Byte) :
    (s.setTxByte i b).txByte j = if i = j then b else s.txByte j := by
  simp only [txByte, setTxByte_txbuf, setTxByte_epoch, Memory.get_set]
  split <;> rfl

@[simp] theorem setRxByte_rxByte (s : State) (i j : Nat) (b : Byte) :
    (s.setRxByte i b).rxByte j = if i = j then b else s.rxByte j := by
  simp only [rxByte, setRxByte_rxbuf, setRxByte_epoch, Memory.get_set]
  split <;> rfl

theorem loadRx_rxByte (s : State) (r : List Byte) (j : Nat) :
    (s.loadRx r).rxByte j = if j < r.length then r.getD j 0 else s.rxByte j := by
  simp only [rxByte, loadRx_rxbuf, loadRx_epoch, Memory.get_setFrom]
  by_cases h : j < r.length
  · simp [h]
  · simp [h]

/-! ### Slices -/

@[simp] theorem txSlice_length (s : State) (a b : Nat) : (s.txSlice a b).length = b - a := by simp [txSlice]

@[simp] theorem rxSlice_length (s : State) (a b : Nat) : (s.rxSlice a b).length = b - a := by simp [rxSlice]

theorem txSlice_getD (s : State) (a b j : Nat) (h : a + j < b) : (s.txSlice a b).getD j 0 = s.txByte (a + j) := by
  have : j < b - a := by omega
  simp [txSlice, this]

theorem rxSlice_getD (s : State) (a b j : Nat) (h : a + j < b) : (s.rxSlice a b).getD j 0 = s.rxByte (a + j) := by
  have : j < b - a := by omega
  simp [rxSlice, this]

/-- A slice is a function of the bytes inside it. -/
theorem txSlice_congr (s t : State) (a b : Nat) (h : ∀ i, a ≤ i → i < b → t.txByte i = s.txByte i) :
    t.txSlice a b = s.txSlice a b := by
  refine List.map_congr_left fun i hi => ?_
  have := List.mem_range'_1.mp hi
  exact h i (by omega) (by omega)

theorem rxSlice_congr (s t : State) (a b : Nat) (h : ∀ i, a ≤ i → i < b → t.rxByte i = s.rxByte i) :
    t.rxSlice a b = s.rxSlice a b := by
  refine List.map_congr_left fun i hi => ?_
  have := List.mem_range'_1.mp hi
  exact h i (by omega) (by omega)

theorem txSlice_append (s : State) (a b c : Nat) (hab : a ≤ b) (hbc : b ≤ c) :
    s.txSlice a c = s.txSlice a b ++ s.txSlice b c := by
  obtain ⟨m, rfl⟩ : ∃ m, b = a + m := ⟨b - a, by omega⟩
  obtain ⟨n, rfl⟩ : ∃ n, c = a + m + n := ⟨c - (a + m), by omega⟩
  have : a + m + n - a = m + n := by omega
  simp only [txSlice, this, show a + m - a = m by omega, show a + m + n - (a + m) = n by omega]
  rw [← List.range'_append_1, List.map_append]

theorem txSlice_cons (s : State) (a b : Nat) (h : a < b) :
    s.txSlice a b = s.txByte a :: s.txSlice (a + 1) b := by
  obtain ⟨n, rfl⟩ : ∃ n, b = a + 1 + n := ⟨b - (a + 1), by omega⟩
  simp only [txSlice, show a + 1 + n - a = n + 1 by omega, show a + 1 + n - (a + 1) = n by omega,
    List.range'_succ, List.map_cons]

theorem txSlice_empty (s : State) (a : Nat) : s.txSlice a a = [] := by simp [txSlice]

/-- Two buffer slices agree when their bytes do; `TXBUF` copied to `RXBUF` in particular (41_codec.md R105). -/
theorem rxSlice_eq_txSlice (s t : State) (n : Nat) (h : ∀ i, i < n → t.rxByte i = s.txByte i) :
    t.rxSlice 0 n = s.txSlice 0 n := by
  refine List.map_congr_left fun i hi => ?_
  have := List.mem_range'_1.mp hi
  exact h i (by omega)

/-- The bytes loaded are the bytes read back. -/
theorem loadRx_rxSlice (s : State) (r : List Byte) : (s.loadRx r).rxSlice 0 r.length = r := by
  refine List.ext_getElem (by simp) fun i h1 h2 => ?_
  have hi : i < r.length := h2
  simp [rxSlice, loadRx_rxByte, hi]

end Sys2Proof.Machine.State
end

