-- ==== Sys2Proof/Laws/Units.lean ====
section
/-! SUPPORT. One lemma per shared operation of the CRC unit, the codec, the session unit and the transport port: everything it can do. -/

namespace Sys2Proof.Machine

/-! ### The CRC unit -/

theorem crcFrom_append (c : Byte × Byte) (x y : List Byte) : crcFrom c (x ++ y) = crcFrom (crcFrom c x) y := by
  simp [crcFrom]

theorem crcFrom_cons (c : Byte × Byte) (b : Byte) (x : List Byte) : crcFrom c (b :: x) = crcFrom (crcStep c b) x := rfl

theorem verify_iff (s : List Byte) (elo ehi : Byte) : verify s elo ehi = true ↔ crc16 s = (elo, ehi) := by
  simp [verify, Prod.ext_iff]

/-- The halves of a packed CRC are the pair (20_memory.md R43). -/
@[simp] theorem loByte_packCrc (c : Byte × Byte) : loByte (packCrc c) = c.1 := by
  refine BitVec.eq_of_getLsbD_eq fun i hi => ?_
  simp [loByte, packCrc, hi, show i < 16 by omega]

@[simp] theorem hiByte_packCrc (c : Byte × Byte) : hiByte (packCrc c) = c.2 := by
  refine BitVec.eq_of_getLsbD_eq fun i hi => ?_
  simp [hiByte, packCrc, hi, show 8 + i < 16 by omega]

/-! ### The transport port (20_memory.md R48 to R52) -/

/-- Issuing a transaction uses up the next answer: what was the answer after next is next. -/
@[simp] theorem State.issue_replyAt (s : State) (c : TpCall) (k : Nat) :
    (s.issue c).replyAt k = s.replyAt (k + 1) := by
  simp [State.replyAt, Nat.add_assoc, Nat.add_comm 1 k]

/-- The answers to come depend on the transport's side of the state alone. -/
theorem State.replyAt_congr (s t : State) (k : Nat) (hr : t.tpReplies = s.tpReplies) (hc : t.tpCalls = s.tpCalls) :
    t.replyAt k = s.replyAt k := by simp [State.replyAt, hr, hc]

/-- A write reports at most the bytes it was given (R51). -/
theorem Reply.written_le (r : Reply) (len n : Nat) (h : r.written len = some n) : n ≤ len := by
  simp only [Reply.written] at h
  split at h <;> simp at h
  omega

/-- A read returns at most the bytes it was asked for (R52). -/
theorem Reply.received_le (r : Reply) (maxLen : Nat) (bs : List Byte) (h : r.received maxLen = some bs) :
    bs.length ≤ maxLen := by
  simp only [Reply.received] at h
  split at h <;> simp at h
  subst h
  exact List.length_take_le maxLen r.bytes

/-! ### The codec -/

/-- What a frame built in place leaves (41_codec.md R102): the four bytes and `TXLEN`. -/
theorem buildFrame_txByte (a f : Byte) (len : Nat) (s : State) (i : Nat) :
    (buildFrame a f len s).txByte i =
      if i = 0 then a
      else if i = 1 then f
      else if i = 2 + len then (crc16 ([a, f] ++ s.txSlice 2 (2 + len))).1
      else if i = 3 + len then (crc16 ([a, f] ++ s.txSlice 2 (2 + len))).2
      else s.txByte i := by
  have hm : ((s.setTxByte 0 a).setTxByte 1 f).txSlice 0 (2 + len) = [a, f] ++ s.txSlice 2 (2 + len) := by
    rw [State.txSlice_cons _ 0 _ (by omega), State.txSlice_cons _ 1 _ (by omega),
      State.txSlice_congr s ((s.setTxByte 0 a).setTxByte 1 f) (1 + 1) (2 + len) fun i h1 _ => by
        simp [show ¬ 0 = i by omega, show ¬ 1 = i by omega]]
    simp
  simp only [buildFrame, hm, State.withTxlen_txByte, State.setTxByte_txByte]
  by_cases h3 : 3 + len = i
  · subst h3; simp [show ¬ 3 + len = 1 by omega]
  · by_cases h2 : 2 + len = i
    · subst h2; simp [show ¬ 2 + len = 1 by omega]
    · by_cases h1 : i = 1
      · subst h1; simp [show ¬ 2 + len = 1 by omega, show ¬ 3 + len = 1 by omega]
      · by_cases h0 : i = 0
        · subst h0; simp
        · simp [h0, h1, h2, h3, Ne.symm h0, Ne.symm h1, Ne.symm h2, Ne.symm h3]

/-- The frame built in place is the header, the staged payload, and the CRC of the two, low byte first (R60, R102). -/
theorem buildFrame_txSlice (a f : Byte) (len : Nat) (s : State) :
    (buildFrame a f len s).txSlice 0 (len + 4) =
      [a, f] ++ s.txSlice 2 (2 + len) ++
        [(crc16 ([a, f] ++ s.txSlice 2 (2 + len))).1, (crc16 ([a, f] ++ s.txSlice 2 (2 + len))).2] := by
  rw [State.txSlice_cons _ 0 _ (by omega), State.txSlice_cons _ 1 _ (by omega),
    State.txSlice_append _ (1 + 1) (2 + len) _ (by omega) (by omega),
    State.txSlice_cons _ (2 + len) _ (by omega), State.txSlice_cons _ (2 + len + 1) _ (by omega),
    show 2 + len + 1 + 1 = len + 4 by omega, State.txSlice_empty,
    State.txSlice_congr s (buildFrame a f len s) (1 + 1) (2 + len) fun i h1 h2 => by
      rw [buildFrame_txByte, if_neg (by omega), if_neg (by omega), if_neg (by omega), if_neg (by omega)]]
  simp [buildFrame_txByte, show ¬ 2 + len = 1 by omega, show 2 + len + 1 = 3 + len by omega,
    show ¬ 3 + len = 1 by omega]

/-- What a frame built in place leaves alone: everything but `TXBUF` and `TXLEN`. -/
theorem buildFrame_fields (a f : Byte) (len : Nat) (s : State) :
    buildFrame a f len s = (s.withTxbuf (buildFrame a f len s).txbuf).withTxlen (len9 (len + 4)) := rfl

@[simp] theorem buildFrame_addr (a f : Byte) (len : Nat) (s : State) : (buildFrame a f len s).addr = s.addr := by
  rw [buildFrame_fields, State.withTxlen_addr, State.withTxbuf_addr]

@[simp] theorem buildFrame_func (a f : Byte) (len : Nat) (s : State) : (buildFrame a f len s).func = s.func := by
  rw [buildFrame_fields, State.withTxlen_func, State.withTxbuf_func]

@[simp] theorem buildFrame_plen (a f : Byte) (len : Nat) (s : State) : (buildFrame a f len s).plen = s.plen := by
  rw [buildFrame_fields, State.withTxlen_plen, State.withTxbuf_plen]

@[simp] theorem buildFrame_clen (a f : Byte) (len : Nat) (s : State) : (buildFrame a f len s).clen = s.clen := by
  rw [buildFrame_fields, State.withTxlen_clen, State.withTxbuf_clen]

@[simp] theorem buildFrame_rxlen (a f : Byte) (len : Nat) (s : State) : (buildFrame a f len s).rxlen = s.rxlen := by
  rw [buildFrame_fields, State.withTxlen_rxlen, State.withTxbuf_rxlen]

@[simp] theorem buildFrame_exp (a f : Byte) (len : Nat) (s : State) : (buildFrame a f len s).exp = s.exp := by
  rw [buildFrame_fields, State.withTxlen_exp, State.withTxbuf_exp]

@[simp] theorem buildFrame_crc (a f : Byte) (len : Nat) (s : State) : (buildFrame a f len s).crc = s.crc := by
  rw [buildFrame_fields, State.withTxlen_crc, State.withTxbuf_crc]

@[simp] theorem buildFrame_rplen (a f : Byte) (len : Nat) (s : State) : (buildFrame a f len s).rplen = s.rplen := by
  rw [buildFrame_fields, State.withTxlen_rplen, State.withTxbuf_rplen]

@[simp] theorem buildFrame_code (a f : Byte) (len : Nat) (s : State) : (buildFrame a f len s).code = s.code := by
  rw [buildFrame_fields, State.withTxlen_code, State.withTxbuf_code]

@[simp] theorem buildFrame_matched (a f : Byte) (len : Nat) (s : State) : (buildFrame a f len s).matched = s.matched := by
  rw [buildFrame_fields, State.withTxlen_matched, State.withTxbuf_matched]

@[simp] theorem buildFrame_connected (a f : Byte) (len : Nat) (s : State) : (buildFrame a f len s).connected = s.connected := by
  rw [buildFrame_fields, State.withTxlen_connected, State.withTxbuf_connected]

@[simp] theorem buildFrame_pending (a f : Byte) (len : Nat) (s : State) : (buildFrame a f len s).pending = s.pending := by
  rw [buildFrame_fields, State.withTxlen_pending, State.withTxbuf_pending]

@[simp] theorem buildFrame_devaddr (a f : Byte) (len : Nat) (s : State) : (buildFrame a f len s).devaddr = s.devaddr := by
  rw [buildFrame_fields, State.withTxlen_devaddr, State.withTxbuf_devaddr]

@[simp] theorem buildFrame_pendfunc (a f : Byte) (len : Nat) (s : State) : (buildFrame a f len s).pendfunc = s.pendfunc := by
  rw [buildFrame_fields, State.withTxlen_pendfunc, State.withTxbuf_pendfunc]

@[simp] theorem buildFrame_rxbuf (a f : Byte) (len : Nat) (s : State) : (buildFrame a f len s).rxbuf = s.rxbuf := by
  rw [buildFrame_fields, State.withTxlen_rxbuf, State.withTxbuf_rxbuf]

@[simp] theorem buildFrame_epoch (a f : Byte) (len : Nat) (s : State) : (buildFrame a f len s).epoch = s.epoch := by
  rw [buildFrame_fields, State.withTxlen_epoch, State.withTxbuf_epoch]

@[simp] theorem buildFrame_events (a f : Byte) (len : Nat) (s : State) : (buildFrame a f len s).events = s.events := by
  rw [buildFrame_fields, State.withTxlen_events, State.withTxbuf_events]

@[simp] theorem buildFrame_hostReads (a f : Byte) (len : Nat) (s : State) : (buildFrame a f len s).hostReads = s.hostReads := by
  rw [buildFrame_fields, State.withTxlen_hostReads, State.withTxbuf_hostReads]

@[simp] theorem buildFrame_tpReplies (a f : Byte) (len : Nat) (s : State) : (buildFrame a f len s).tpReplies = s.tpReplies := by
  rw [buildFrame_fields, State.withTxlen_tpReplies, State.withTxbuf_tpReplies]

@[simp] theorem buildFrame_tpCalls (a f : Byte) (len : Nat) (s : State) : (buildFrame a f len s).tpCalls = s.tpCalls := by
  rw [buildFrame_fields, State.withTxlen_tpCalls, State.withTxbuf_tpCalls]

@[simp] theorem buildFrame_txlen (a f : Byte) (len : Nat) (s : State) : (buildFrame a f len s).txlen = len9 (len + 4) := by
  rw [buildFrame_fields, State.withTxlen_txlen]

@[simp] theorem buildFrame_rxByte (a f : Byte) (len : Nat) (s : State) (i : Nat) : (buildFrame a f len s).rxByte i = s.rxByte i := by
  rw [buildFrame_fields, State.withTxlen_rxByte, State.withTxbuf_rxByte]

theorem buildFrame_wf (a f : Byte) (len : Nat) (s : State) (h : s.txbuf.wf = true) (hl : len ≤ 252) :
    (buildFrame a f len s).txbuf.wf = true := by
  simp only [buildFrame, State.withTxlen_txbuf, State.setTxByte_txbuf]
  refine Memory.wf_set _ _ _ (Memory.wf_set _ _ _ (Memory.wf_set _ _ _ (Memory.wf_set _ _ _ h ?_) ?_) ?_) ?_ <;> omega

/-- Decoding in place changes `RPLEN` alone: to the payload's length on success, to 0 on an error (R104). -/
theorem decodeRx_spec (n : Nat) (ea ef : Byte) (s : State) :
    (∃ len, frameDecode (s.rxSlice 0 n) ea ef = .ok len ∧ decodeRx n ea ef s = (.ok, s.withRplen (len8 len))) ∨
    (∃ k, frameDecode (s.rxSlice 0 n) ea ef = .error k ∧ decodeRx n ea ef s = (k, s.withRplen 0)) := by
  unfold decodeRx
  cases h : frameDecode (s.rxSlice 0 n) ea ef with
  | ok len => exact .inl ⟨len, rfl, rfl⟩
  | error k => exact .inr ⟨k, rfl, rfl⟩

/-- A decoded payload is as long as the sequence less header and CRC. -/
theorem frameDecode_ok (raw : List Byte) (ea ef : Byte) (len : Nat) (h : frameDecode raw ea ef = .ok len) :
    4 ≤ raw.length ∧ len = raw.length - 4 := by
  unfold frameDecode at h
  split at h
  · cases h
  · rename_i h4
    split at h
    · cases h
    · split at h
      · cases h
      · simp only [Config.minFrame, Nat.not_lt] at h4
        exact ⟨h4, by simpa using h.symm⟩

/-- The errors of `decode` are LT's three (R103). -/
theorem frameDecode_error (raw : List Byte) (ea ef : Byte) (k : StatusCode) (h : frameDecode raw ea ef = .error k) :
    k = .timeout ∨ k = .badCrc ∨ k = .protocolError := by
  unfold frameDecode at h
  split at h
  · simp_all
  · split at h
    · simp_all
    · split at h <;> simp_all

/-! ### The session unit -/

/-- One reply read and decoded (42_session.md R123, R125): a read error, or bytes loaded and decoded. -/
theorem receiveReply_spec (ea ef : Byte) (s : State) :
    ((s.replyAt 0).received 256 = none ∧
      receiveReply ea ef s = (.transportError, ((s.issue (.tpRead 256)).withRxlen 0).withRplen 0)) ∨
    (∃ r len, (s.replyAt 0).received 256 = some r ∧ frameDecode r ea ef = .ok len ∧
      receiveReply ea ef s =
        (.ok, (((s.issue (.tpRead 256)).loadRx r).withRxlen (len9 r.length)).withRplen (len8 len))) ∨
    (∃ r k, (s.replyAt 0).received 256 = some r ∧ frameDecode r ea ef = .error k ∧
      receiveReply ea ef s =
        (k, (((s.issue (.tpRead 256)).loadRx r).withRxlen (len9 r.length)).withRplen 0)) := by
  unfold receiveReply tpRead
  simp only [Config.readMax]
  cases h : (s.replyAt 0).received 256 with
  | none => exact .inl ⟨rfl, rfl⟩
  | some r =>
    have hs : (((s.issue (.tpRead 256)).loadRx r).withRxlen (len9 r.length)).rxSlice 0 r.length = r :=
      State.loadRx_rxSlice (s.issue (.tpRead 256)) r
    rcases decodeRx_spec r.length ea ef (((s.issue (.tpRead 256)).loadRx r).withRxlen (len9 r.length)) with
      ⟨len, hd, he⟩ | ⟨k, hd, he⟩
    · rw [hs] at hd; exact .inr (.inl ⟨r, len, rfl, hd, he⟩)
    · rw [hs] at hd; exact .inr (.inr ⟨r, k, rfl, hd, he⟩)

/-- A failed `CONNECT` closes the transport and is Disconnected (R123). -/
theorem connectFail_eq (k : StatusCode) (s : State) :
    connectFail k s = ((s.issue .tpClose).withSession false false 0 0).withCode k := rfl

end Sys2Proof.Machine
end

