-- ==== Sys2Proof/Laws/Registers.lean ====
section
/-! SUPPORT. What the host reads after each update: the value of the register written, and every other register as before. -/

namespace Sys2Proof.Machine

/-! ### The register written, and the others -/

@[simp] theorem State.withAddr_regWord_addr (s : State) (v : Byte) : (s.withAddr v).regWord .addr = v.setWidth 32 := rfl

theorem State.withAddr_regWord (s : State) (v : Byte) (r : HostReg) (h : r ≠ .addr) : (s.withAddr v).regWord r = s.regWord r := by
  cases r <;> first | rfl | exact absurd rfl h

@[simp] theorem State.withFunc_regWord_func (s : State) (v : Byte) : (s.withFunc v).regWord .func = v.setWidth 32 := rfl

theorem State.withFunc_regWord (s : State) (v : Byte) (r : HostReg) (h : r ≠ .func) : (s.withFunc v).regWord r = s.regWord r := by
  cases r <;> first | rfl | exact absurd rfl h

@[simp] theorem State.withPlen_regWord_plen (s : State) (v : Byte) : (s.withPlen v).regWord .plen = v.setWidth 32 := rfl

theorem State.withPlen_regWord (s : State) (v : Byte) (r : HostReg) (h : r ≠ .plen) : (s.withPlen v).regWord r = s.regWord r := by
  cases r <;> first | rfl | exact absurd rfl h

@[simp] theorem State.withClen_regWord_clen (s : State) (v : Len9) : (s.withClen v).regWord .clen = v.setWidth 32 := rfl

theorem State.withClen_regWord (s : State) (v : Len9) (r : HostReg) (h : r ≠ .clen) : (s.withClen v).regWord r = s.regWord r := by
  cases r <;> first | rfl | exact absurd rfl h

@[simp] theorem State.withRxlen_regWord_rxlen (s : State) (v : Len9) : (s.withRxlen v).regWord .rxlen = v.setWidth 32 := rfl

theorem State.withRxlen_regWord (s : State) (v : Len9) (r : HostReg) (h : r ≠ .rxlen) : (s.withRxlen v).regWord r = s.regWord r := by
  cases r <;> first | rfl | exact absurd rfl h

@[simp] theorem State.withExp_regWord_exp (s : State) (v : Crc16) : (s.withExp v).regWord .exp = v.setWidth 32 := rfl

theorem State.withExp_regWord (s : State) (v : Crc16) (r : HostReg) (h : r ≠ .exp) : (s.withExp v).regWord r = s.regWord r := by
  cases r <;> first | rfl | exact absurd rfl h

@[simp] theorem State.withCrc_regWord_crc (s : State) (v : Crc16) : (s.withCrc v).regWord .crc = v.setWidth 32 := rfl

theorem State.withCrc_regWord (s : State) (v : Crc16) (r : HostReg) (h : r ≠ .crc) : (s.withCrc v).regWord r = s.regWord r := by
  cases r <;> first | rfl | exact absurd rfl h

@[simp] theorem State.withTxlen_regWord_txlen (s : State) (v : Len9) : (s.withTxlen v).regWord .txlen = v.setWidth 32 := rfl

theorem State.withTxlen_regWord (s : State) (v : Len9) (r : HostReg) (h : r ≠ .txlen) : (s.withTxlen v).regWord r = s.regWord r := by
  cases r <;> first | rfl | exact absurd rfl h

@[simp] theorem State.withRplen_regWord_rplen (s : State) (v : Byte) : (s.withRplen v).regWord .rplen = v.setWidth 32 := rfl

theorem State.withRplen_regWord (s : State) (v : Byte) (r : HostReg) (h : r ≠ .rplen) : (s.withRplen v).regWord r = s.regWord r := by
  cases r <;> first | rfl | exact absurd rfl h

@[simp] theorem State.withCode_regWord_status (s : State) (k : StatusCode) : (s.withCode k).regWord .status = statusValue k s.matched := rfl

theorem State.withCode_regWord (s : State) (k : StatusCode) (r : HostReg) (h : r ≠ .status) : (s.withCode k).regWord r = s.regWord r := by
  cases r <;> first | rfl | exact absurd rfl h

@[simp] theorem State.withMatch_regWord_status (s : State) (b : Bool) : (s.withMatch b).regWord .status = statusValue s.code b := rfl

theorem State.withMatch_regWord (s : State) (b : Bool) (r : HostReg) (h : r ≠ .status) : (s.withMatch b).regWord r = s.regWord r := by
  cases r <;> first | rfl | exact absurd rfl h

@[simp] theorem State.withSession_regWord_session (s : State) (c p : Bool) (d f : Byte) : (s.withSession c p d f).regWord .session = bitWord c ||| (bitWord p <<< 1) ||| (d.setWidth 32 <<< 8) ||| (f.setWidth 32 <<< 16) := rfl

theorem State.withSession_regWord (s : State) (c p : Bool) (d f : Byte) (r : HostReg) (h : r ≠ .session) : (s.withSession c p d f).regWord r = s.regWord r := by
  cases r <;> first | rfl | exact absurd rfl h

@[simp] theorem State.withEvents_regWord (s : State) (es : List Event) (r : HostReg) : (s.withEvents es).regWord r = s.regWord r := by
  cases r <;> rfl

@[simp] theorem State.withReads_regWord (s : State) (vs : List Word) (r : HostReg) : (s.withReads vs).regWord r = s.regWord r := by
  cases r <;> rfl

@[simp] theorem State.withTp_regWord (s : State) (rs : List Reply) (cs : List TpCall) (r : HostReg) : (s.withTp rs cs).regWord r = s.regWord r := by
  cases r <;> rfl

@[simp] theorem State.issue_regWord (s : State) (c : TpCall) (r : HostReg) : (s.issue c).regWord r = s.regWord r := by
  cases r <;> rfl

theorem State.setTxByte_regWord (s : State) (i : Nat) (b : Byte) (r : HostReg)
    (h : ∀ j : Byte, r = .txbuf j → i ≠ j.toNat) : (s.setTxByte i b).regWord r = s.regWord r := by
  cases r with
  | txbuf j => simp [State.regWord, h j rfl]
  | _ => rfl

theorem State.setRxByte_regWord (s : State) (i : Nat) (b : Byte) (r : HostReg)
    (h : ∀ j : Byte, r = .rxbuf j → i ≠ j.toNat) : (s.setRxByte i b).regWord r = s.regWord r := by
  cases r with
  | rxbuf j => simp [State.regWord, h j rfl]
  | _ => rfl

/-- The bytes behind those received keep what they held (10_state.md R20). -/
theorem State.loadRx_regWord (s : State) (bs : List Byte) (r : HostReg)
    (h : ¬ rxIndex (fun i => i < bs.length) r) : (s.loadRx bs).regWord r = s.regWord r := by
  cases r with
  | rxbuf j =>
    have : ¬ j.toNat < bs.length := fun hj => h ⟨j, rfl, hj⟩
    simp [State.regWord, State.loadRx_rxByte, this]
  | _ => rfl

/-- A frame built in place changes `TXLEN` and its four bytes alone (41_codec.md R102). -/
theorem buildFrame_regWord (a f : Byte) (len : Nat) (s : State) (r : HostReg)
    (h : r ≠ .txlen) (hb : ¬ frameBytes len r) : (buildFrame a f len s).regWord r = s.regWord r := by
  cases r with
  | txbuf i =>
    have hi : ¬ (i.toNat = 0 ∨ i.toNat = 1 ∨ i.toNat = 2 + len ∨ i.toNat = 3 + len) := fun hi => hb ⟨i, rfl, hi⟩
    simp only [State.regWord]
    rw [buildFrame_txByte, if_neg (by omega), if_neg (by omega), if_neg (by omega), if_neg (by omega)]
  | txlen => exact absurd rfl h
  | _ =>
    rw [buildFrame_fields]
    generalize (buildFrame a f len s).txbuf = m
    rfl

/-! ### Values -/

/-- A byte count below 512 survives a 9-bit length register. -/
theorem len9_word (n : Nat) (h : n < 512) : (len9 n).setWidth 32 = lenWord n := by
  refine BitVec.eq_of_toNat_eq ?_
  simp [len9, lenWord]
  omega

theorem len9_toNat (n : Nat) (h : n < 512) : (len9 n).toNat = n := by
  simp [len9]
  omega

/-- A payload length below 256 survives `RPLEN`. -/
theorem len8_word (n : Nat) (h : n < 256) : (len8 n).setWidth 32 = lenWord n := by
  refine BitVec.eq_of_toNat_eq ?_
  simp [len8, lenWord]
  omega

theorem len8_toNat (n : Nat) (h : n < 256) : (len8 n).toNat = n := by
  simp [len8]
  omega

/-- A packed CRC read by the host (43_host_access.md R150). -/
theorem packCrc_word (c : Byte × Byte) : (packCrc c).setWidth 32 = crcWord c := by
  refine BitVec.eq_of_getLsbD_eq fun j hj => ?_
  by_cases h0 : j < 8
  · simp [crcWord, packCrc, hj, h0, show j < 16 by omega]
  · by_cases h1 : j < 16
    · simp [crcWord, packCrc, hj, h0, h1]
    · simp only [crcWord, packCrc, BitVec.getLsbD_setWidth, BitVec.getLsbD_or, BitVec.getLsbD_shiftLeft, hj, h0, h1]
      rw [BitVec.getLsbD_of_ge c.1 j (by omega), BitVec.getLsbD_of_ge c.2 (j - 8) (by omega)]
      simp

/-- The wire frame is what a frame built in place leaves in `TXBUF` (30_encoding.md R60, 41_codec.md R102). -/
theorem buildFrame_wire (a f : Byte) (len : Nat) (s : State) :
    (buildFrame a f len s).txSlice 0 (len + 4) = wireFrame a f (s.txSlice 2 (2 + len)) :=
  buildFrame_txSlice a f len s

/-- The argument check of `ENC` and `SEND` (41_codec.md R102, 42_session.md R124). -/
theorem requestRefused_iff (s : State) :
    s.requestRefused = true ↔ s.func.toNat = 0 ∨ 127 < s.func.toNat ∨ 252 < s.plen.toNat := by
  simp [State.requestRefused, functionRefused, Config.funcMax, Config.maxPayload, or_assoc]

theorem clenTooLong_iff (s : State) : s.clenTooLong = true ↔ 256 < s.clen.toNat := by
  simp [State.clenTooLong, Config.bufferSize]

theorem rxlenTooLong_iff (s : State) : s.rxlenTooLong = true ↔ 256 < s.rxlen.toNat := by
  simp [State.rxlenTooLong, Config.bufferSize]

/-- `STATUS` after a command, `MATCH` being `m` (10_state.md R14). -/
theorem status_of_matched (s : State) (k : StatusCode) (m : Bool) (h : s.matched = m) :
    (s.withCode k).regWord .status = statusValue k m := by
  rw [State.withCode_regWord_status, h]

/-! ### Updates that leave the transport and the outside world alone -/

@[simp] theorem issuedExactly_withCode (cs : List TpCall) (s t : State) (k : StatusCode) :
    issuedExactly cs s (t.withCode k) ↔ issuedExactly cs s t := Iff.rfl

@[simp] theorem sameWorld_withCode (s t : State) (k : StatusCode) : sameWorld s (t.withCode k) ↔ sameWorld s t := Iff.rfl

@[simp] theorem issuedExactly_withMatch (cs : List TpCall) (s t : State) (b : Bool) :
    issuedExactly cs s (t.withMatch b) ↔ issuedExactly cs s t := Iff.rfl

@[simp] theorem sameWorld_withMatch (s t : State) (b : Bool) : sameWorld s (t.withMatch b) ↔ sameWorld s t := Iff.rfl

@[simp] theorem issuedExactly_withTxlen (cs : List TpCall) (s t : State) (v : Len9) :
    issuedExactly cs s (t.withTxlen v) ↔ issuedExactly cs s t := Iff.rfl

@[simp] theorem sameWorld_withTxlen (s t : State) (v : Len9) : sameWorld s (t.withTxlen v) ↔ sameWorld s t := Iff.rfl

@[simp] theorem issuedExactly_withRxlen (cs : List TpCall) (s t : State) (v : Len9) :
    issuedExactly cs s (t.withRxlen v) ↔ issuedExactly cs s t := Iff.rfl

@[simp] theorem sameWorld_withRxlen (s t : State) (v : Len9) : sameWorld s (t.withRxlen v) ↔ sameWorld s t := Iff.rfl

@[simp] theorem issuedExactly_withRplen (cs : List TpCall) (s t : State) (v : Byte) :
    issuedExactly cs s (t.withRplen v) ↔ issuedExactly cs s t := Iff.rfl

@[simp] theorem sameWorld_withRplen (s t : State) (v : Byte) : sameWorld s (t.withRplen v) ↔ sameWorld s t := Iff.rfl

@[simp] theorem issuedExactly_withCrc (cs : List TpCall) (s t : State) (v : Crc16) :
    issuedExactly cs s (t.withCrc v) ↔ issuedExactly cs s t := Iff.rfl

@[simp] theorem sameWorld_withCrc (s t : State) (v : Crc16) : sameWorld s (t.withCrc v) ↔ sameWorld s t := Iff.rfl

@[simp] theorem issuedExactly_withSession (cs : List TpCall) (s t : State) (c p : Bool) (d f : Byte) :
    issuedExactly cs s (t.withSession c p d f) ↔ issuedExactly cs s t := Iff.rfl

@[simp] theorem sameWorld_withSession (s t : State) (c p : Bool) (d f : Byte) : sameWorld s (t.withSession c p d f) ↔ sameWorld s t := Iff.rfl

@[simp] theorem issuedExactly_loadRx (cs : List TpCall) (s t : State) (r : List Byte) :
    issuedExactly cs s (t.loadRx r) ↔ issuedExactly cs s t := Iff.rfl

@[simp] theorem sameWorld_loadRx (s t : State) (r : List Byte) : sameWorld s (t.loadRx r) ↔ sameWorld s t := Iff.rfl

@[simp] theorem sameWorld_issue (s t : State) (c : TpCall) : sameWorld s (t.issue c) ↔ sameWorld s t := Iff.rfl

theorem sameWorld_refl (s : State) : sameWorld s s := ⟨rfl, rfl, rfl⟩

theorem issuedExactly_nil (s : State) : issuedExactly [] s s := ⟨rfl, rfl⟩

theorem issuedExactly_issue (cs : List TpCall) (s t : State) (c : TpCall) (h : issuedExactly cs s t) :
    issuedExactly (cs ++ [c]) s (t.issue c) := by
  constructor <;> simp [h.1, h.2]

/-! ### The values of `SESSION` (42_session.md R129), after the last writes of a session command -/

theorem session_disconnected (s : State) (k : StatusCode) :
    ((s.withSession false false 0 0).withCode k).regWord .session = sessionDisconnected := by
  rw [State.withCode_regWord _ _ _ (by simp), State.withSession_regWord_session]
  decide

theorem session_idle (s : State) (a : Byte) (k : StatusCode) :
    ((s.withSession true false a 0).withCode k).regWord .session = sessionIdle a := by
  rw [State.withCode_regWord _ _ _ (by simp), State.withSession_regWord_session, sessionIdle]
  simp [bitWord, BitVec.or_comm]

theorem session_awaiting (s : State) (a f : Byte) (k : StatusCode) :
    ((s.withSession true true a f).withCode k).regWord .session = sessionAwaiting a f := by
  rw [State.withCode_regWord _ _ _ (by simp), State.withSession_regWord_session, sessionAwaiting]
  generalize a.setWidth 32 <<< 8 = x
  generalize f.setWidth 32 <<< 16 = y
  rw [show bitWord true ||| bitWord true <<< 1 = (3 : Word) by decide, BitVec.or_comm (3 : Word) x,
    BitVec.or_comm (x ||| 3) y, BitVec.or_assoc]

theorem session_answered (s : State) (c : Bool) (a : Byte) (k : StatusCode) :
    ((s.withSession c false a 0).withCode k).regWord .session = bitWord c ||| (a.setWidth 32 <<< 8) := by
  rw [State.withCode_regWord _ _ _ (by simp), State.withSession_regWord_session]
  simp [bitWord]

end Sys2Proof.Machine
end

