-- ==== Sys2Proof/Laws/Session.lean ====
section
/-! SUPPORT. The session commands path by path: the state each path ends in, as a chain of updates (42_session.md R123 to R126). -/

namespace Sys2Proof.Machine

/-! ### The two states after a request has been written -/

/-- The state after `SEND` has built and written its request (R124). -/
def State.requestSent (s : State) : State :=
  (buildFrame s.devaddr s.func s.plen.toNat s).issue
    (.tpWrite (wireFrame s.devaddr s.func (s.txSlice 2 (2 + s.plen.toNat))))

/-- The state after `CONNECT a` has opened the transport and written the identification request (R123). -/
def State.identificationSent (s : State) (a : Byte) : State :=
  (buildFrame a 0x11 0 (s.issue .tpOpen)).issue (.tpWrite (wireFrame a 0x11 []))

theorem State.requestSent_regWord (s : State) (r : HostReg) (h : r ≠ .txlen) (hb : ¬ frameBytes s.plen.toNat r) :
    s.requestSent.regWord r = s.regWord r := by
  rw [State.requestSent, State.issue_regWord, buildFrame_regWord _ _ _ _ _ h hb]

theorem State.identificationSent_regWord (s : State) (a : Byte) (r : HostReg) (h : r ≠ .txlen) (hb : ¬ frameBytes 0 r) :
    (s.identificationSent a).regWord r = s.regWord r := by
  rw [State.identificationSent, State.issue_regWord, buildFrame_regWord _ _ _ _ _ h hb, State.issue_regWord]

theorem State.requestSent_txSlice (s : State) :
    s.requestSent.txSlice 0 (s.plen.toNat + 4) = wireFrame s.devaddr s.func (s.txSlice 2 (2 + s.plen.toNat)) := by
  rw [State.requestSent, State.issue_txSlice, buildFrame_wire]

theorem State.identificationSent_txSlice (s : State) (a : Byte) :
    (s.identificationSent a).txSlice 0 4 = wireFrame a 0x11 [] := by
  have h := buildFrame_wire a 0x11 0 (s.issue .tpOpen)
  rw [show State.txSlice (s.issue .tpOpen) 2 (2 + 0) = [] from State.txSlice_empty _ _] at h
  rw [State.identificationSent, State.issue_txSlice]
  exact h

theorem State.requestSent_txlen (s : State) : s.requestSent.txlen = len9 (s.plen.toNat + 4) := by
  rw [State.requestSent, State.issue_txlen, buildFrame_txlen]

theorem State.identificationSent_txlen (s : State) (a : Byte) : (s.identificationSent a).txlen = 4 := by
  rw [State.identificationSent, State.issue_txlen, buildFrame_txlen]
  rfl

theorem State.requestSent_issued (s : State) :
    issuedExactly [.tpWrite (wireFrame s.devaddr s.func (s.txSlice 2 (2 + s.plen.toNat)))] s s.requestSent := by
  constructor <;> simp [State.requestSent]

theorem State.identificationSent_issued (s : State) (a : Byte) :
    issuedExactly [.tpOpen, .tpWrite (wireFrame a 0x11 [])] s (s.identificationSent a) := by
  refine ⟨by simp [State.identificationSent], ?_⟩
  simp only [State.identificationSent, State.issue_tpReplies, buildFrame_tpReplies, ← List.drop_one, List.drop_drop]
  rfl

theorem State.requestSent_world (s : State) : sameWorld s s.requestSent := by
  refine ⟨?_, ?_, ?_⟩ <;> simp [State.requestSent]

theorem State.identificationSent_world (s : State) (a : Byte) : sameWorld s (s.identificationSent a) := by
  refine ⟨?_, ?_, ?_⟩ <;> simp [State.identificationSent]

theorem State.requestSent_matched (s : State) : s.requestSent.matched = s.matched := by simp [State.requestSent]

theorem State.identificationSent_matched (s : State) (a : Byte) : (s.identificationSent a).matched = s.matched := by
  simp [State.identificationSent]

theorem State.requestSent_session (s : State) :
    s.requestSent.connected = s.connected ∧ s.requestSent.pending = s.pending ∧
    s.requestSent.devaddr = s.devaddr ∧ s.requestSent.pendfunc = s.pendfunc ∧ s.requestSent.func = s.func := by
  simp [State.requestSent]

theorem State.identificationSent_replyAt (s : State) (a : Byte) (k : Nat) :
    (s.identificationSent a).replyAt k = s.replyAt (k + 2) := by
  rw [State.identificationSent, State.issue_replyAt,
    State.replyAt_congr (s.issue .tpOpen) _ _ (by simp) (by simp), State.issue_replyAt]

/-! ### `DISCONNECT` -/

theorem exec_disconnect_closed (s : State) (h : s.connected = false) :
    exec .disconnect s = .next (s.withCode .ok) := by
  simp [exec, execDisconnect, h, complete]

theorem exec_disconnect_open (s : State) (h : s.connected = true) :
    exec .disconnect s = .next (((s.issue .tpClose).withSession false false 0 0).withCode
      (if (s.replyAt 0).accepted then .ok else .transportError)) := by
  simp only [exec, execDisconnect, h, if_true]
  rfl

/-- Every path of `DISCONNECT`. -/
theorem exec_disconnect_cases (s t : State) (h : exec .disconnect s = .next t) :
    (s.connected = false ∧ t = s.withCode .ok) ∨
    (s.connected = true ∧ t = ((s.issue .tpClose).withSession false false 0 0).withCode
      (if (s.replyAt 0).accepted then .ok else .transportError)) := by
  cases hc : s.connected with
  | false => rw [exec_disconnect_closed s hc] at h; cases h; exact .inl ⟨rfl, rfl⟩
  | true => rw [exec_disconnect_open s hc] at h; cases h; exact .inr ⟨rfl, rfl⟩

/-! ### `SEND` -/

theorem exec_send_illegal (s : State) (h : ¬ s.isIdle) : exec .send s = .next (s.withCode .illegalState) := by
  simp only [exec, execSend]
  rw [if_neg (by simpa [State.isIdle] using h)]
  rfl

theorem exec_send_invalid (s : State) (h : s.isIdle) (hr : s.requestRefused = true) :
    exec .send s = .next ((s.withTxlen 0).withCode .invalidArgument) := by
  simp only [exec, execSend]
  rw [if_pos (by simp [h.1, h.2]), if_pos hr]
  rfl

/-- `sendFrame` on the frame `SEND` builds: what the transport is given, and how its answer is read. -/
theorem sendFrame_buildFrame (s : State) (h : s.plen.toNat ≤ 252) :
    sendFrame (buildFrame s.devaddr s.func s.plen.toNat s) =
      if (s.replyAt 0).written (s.plen.toNat + 4) = some (s.plen.toNat + 4) then
        (s.requestSent.withSession s.connected true s.devaddr s.func).withCode .ok
      else s.requestSent.withCode .transportError := by
  have hl : (buildFrame s.devaddr s.func s.plen.toNat s).txlen.toNat = s.plen.toNat + 4 := by
    rw [buildFrame_txlen]; exact len9_toNat _ (by omega)
  simp only [sendFrame, tpWrite, hl, State.txSlice_length, Nat.sub_zero]
  rw [State.replyAt_congr s _ 0 (by simp) (by simp), buildFrame_wire]
  simp [State.requestSent, complete]

theorem exec_send_failed (s : State) (h : s.isIdle) (hr : s.requestRefused = false)
    (hw : (s.replyAt 0).written (s.plen.toNat + 4) ≠ some (s.plen.toNat + 4)) :
    exec .send s = .next (s.requestSent.withCode .transportError) := by
  have hp : s.plen.toNat ≤ 252 := by
    have := (requestRefused_iff s).not.1 (by simp [hr])
    omega
  simp only [exec, execSend]
  rw [if_pos (by simp [h.1, h.2]), if_neg (by simp [hr]), sendFrame_buildFrame s hp, if_neg hw]

theorem exec_send_ok (s : State) (h : s.isIdle) (hr : s.requestRefused = false)
    (hw : (s.replyAt 0).written (s.plen.toNat + 4) = some (s.plen.toNat + 4)) :
    exec .send s = .next ((s.requestSent.withSession true true s.devaddr s.func).withCode .ok) := by
  have hp : s.plen.toNat ≤ 252 := by
    have := (requestRefused_iff s).not.1 (by simp [hr])
    omega
  simp only [exec, execSend]
  rw [if_pos (by simp [h.1, h.2]), if_neg (by simp [hr]), sendFrame_buildFrame s hp, if_pos hw, h.1]

/-- Every path of `SEND`, with what leads to it. -/
theorem exec_send_cases (s t : State) (h : exec .send s = .next t) :
    (¬ s.isIdle ∧ t = s.withCode .illegalState) ∨
    (s.isIdle ∧ s.requestRefused = true ∧ t = (s.withTxlen 0).withCode .invalidArgument) ∨
    (s.isIdle ∧ s.requestRefused = false ∧ (s.replyAt 0).written (s.plen.toNat + 4) ≠ some (s.plen.toNat + 4) ∧
      t = s.requestSent.withCode .transportError) ∨
    (s.isIdle ∧ s.requestRefused = false ∧ (s.replyAt 0).written (s.plen.toNat + 4) = some (s.plen.toNat + 4) ∧
      t = (s.requestSent.withSession true true s.devaddr s.func).withCode .ok) := by
  by_cases hi : s.isIdle
  · cases hr : s.requestRefused with
    | true => rw [exec_send_invalid s hi hr] at h; cases h; exact .inr (.inl ⟨hi, rfl, rfl⟩)
    | false =>
      by_cases hw : (s.replyAt 0).written (s.plen.toNat + 4) = some (s.plen.toNat + 4)
      · rw [exec_send_ok s hi hr hw] at h; cases h; exact .inr (.inr (.inr ⟨hi, rfl, hw, rfl⟩))
      · rw [exec_send_failed s hi hr hw] at h; cases h; exact .inr (.inr (.inl ⟨hi, rfl, hw, rfl⟩))
  · rw [exec_send_illegal s hi] at h; cases h; exact .inl ⟨hi, rfl⟩

/-! ### `RECV` -/

/-- The state after a read that failed (R125). -/
def State.readFailed (s : State) : State := ((s.issue (.tpRead 256)).withRxlen 0).withRplen 0

/-- The state after a read of `r` and its decoding, `n` being what goes to `RPLEN` (R125). -/
def State.replyRead (s : State) (r : List Byte) (n : Byte) : State :=
  (((s.issue (.tpRead 256)).loadRx r).withRxlen (len9 r.length)).withRplen n

theorem State.readFailed_regWord (s : State) (q : HostReg) (h : q ≠ .rxlen) (h' : q ≠ .rplen) :
    s.readFailed.regWord q = s.regWord q := by
  rw [State.readFailed, State.withRplen_regWord _ _ _ h', State.withRxlen_regWord _ _ _ h, State.issue_regWord]

theorem State.replyRead_regWord (s : State) (r : List Byte) (n : Byte) (q : HostReg) (h : q ≠ .rxlen) (h' : q ≠ .rplen)
    (hb : ¬ rxIndex (fun i => i < r.length) q) : (s.replyRead r n).regWord q = s.regWord q := by
  rw [State.replyRead, State.withRplen_regWord _ _ _ h', State.withRxlen_regWord _ _ _ h, State.loadRx_regWord _ _ _ hb,
    State.issue_regWord]

theorem State.replyRead_rxSlice (s : State) (r : List Byte) (n : Byte) : (s.replyRead r n).rxSlice 0 r.length = r :=
  State.loadRx_rxSlice (s.issue (.tpRead 256)) r

theorem State.replyRead_regWord_rxlen (s : State) (r : List Byte) (n : Byte) (h : r.length ≤ 256) :
    (s.replyRead r n).regWord .rxlen = lenWord r.length := by
  rw [State.replyRead, State.withRplen_regWord _ _ _ (by simp), State.withRxlen_regWord_rxlen, len9_word _ (by omega)]

theorem State.replyRead_regWord_rplen (s : State) (r : List Byte) (n : Byte) :
    (s.replyRead r n).regWord .rplen = n.setWidth 32 := by
  rw [State.replyRead, State.withRplen_regWord_rplen]

theorem State.replyRead_issued (cs : List TpCall) (s t : State) (r : List Byte) (n : Byte) (h : issuedExactly cs s t) :
    issuedExactly (cs ++ [.tpRead 256]) s (t.replyRead r n) := by
  constructor <;> simp [State.replyRead, h.1, h.2]

@[simp] theorem State.replyRead_world (s t : State) (r : List Byte) (n : Byte) :
    sameWorld s (t.replyRead r n) ↔ sameWorld s t := Iff.rfl

@[simp] theorem State.readFailed_world (s t : State) : sameWorld s t.readFailed ↔ sameWorld s t := Iff.rfl

@[simp] theorem State.replyRead_matched (s : State) (r : List Byte) (n : Byte) : (s.replyRead r n).matched = s.matched := rfl

@[simp] theorem State.readFailed_matched (s : State) : s.readFailed.matched = s.matched := rfl

theorem State.readFailed_issued (cs : List TpCall) (s t : State) (h : issuedExactly cs s t) :
    issuedExactly (cs ++ [.tpRead 256]) s t.readFailed := by
  constructor <;> simp [State.readFailed, h.1, h.2]

theorem exec_recv_illegal (s : State) (h : s.pending = false) : exec .recv s = .next (s.withCode .illegalState) := by
  simp [exec, execRecv, h, complete]

theorem exec_recv_failed (s : State) (h : s.pending = true) (hr : (s.replyAt 0).received 256 = none) :
    exec .recv s = .next ((s.readFailed.withSession s.connected false s.devaddr 0).withCode .transportError) := by
  rcases receiveReply_spec s.devaddr s.pendfunc s with ⟨_, h2⟩ | ⟨r, len, h1, _⟩ | ⟨r, k, h1, _⟩
  · simp only [exec, execRecv, h, if_true, h2]; rfl
  · rw [hr] at h1; cases h1
  · rw [hr] at h1; cases h1

theorem exec_recv_error (s : State) (r : List Byte) (k : StatusCode) (h : s.pending = true)
    (hr : (s.replyAt 0).received 256 = some r) (hd : frameDecode r s.devaddr s.pendfunc = .error k) :
    exec .recv s = .next (((s.replyRead r 0).withSession s.connected false s.devaddr 0).withCode k) := by
  rcases receiveReply_spec s.devaddr s.pendfunc s with ⟨h1, _⟩ | ⟨r', len, h1, h2, _⟩ | ⟨r', k', h1, h2, h3⟩
  · rw [hr] at h1; cases h1
  · rw [hr] at h1; cases h1; rw [hd] at h2; cases h2
  · rw [hr] at h1; cases h1; rw [hd] at h2; cases h2
    simp only [exec, execRecv, h, if_true, h3]; rfl

theorem exec_recv_ok (s : State) (r : List Byte) (len : Nat) (h : s.pending = true)
    (hr : (s.replyAt 0).received 256 = some r) (hd : frameDecode r s.devaddr s.pendfunc = .ok len) :
    exec .recv s = .next (((s.replyRead r (len8 len)).withSession s.connected false s.devaddr 0).withCode .ok) := by
  rcases receiveReply_spec s.devaddr s.pendfunc s with ⟨h1, _⟩ | ⟨r', len', h1, h2, h3⟩ | ⟨r', k, h1, h2, _⟩
  · rw [hr] at h1; cases h1
  · rw [hr] at h1; cases h1; rw [hd] at h2; cases h2
    simp only [exec, execRecv, h, if_true, h3]; rfl
  · rw [hr] at h1; cases h1; rw [hd] at h2; cases h2

/-- Every path of `RECV`, with what leads to it. -/
theorem exec_recv_cases (s t : State) (h : exec .recv s = .next t) :
    (s.pending = false ∧ t = s.withCode .illegalState) ∨
    (s.pending = true ∧ (s.replyAt 0).received 256 = none ∧
      t = (s.readFailed.withSession s.connected false s.devaddr 0).withCode .transportError) ∨
    (∃ r k, s.pending = true ∧ (s.replyAt 0).received 256 = some r ∧ frameDecode r s.devaddr s.pendfunc = .error k ∧
      t = ((s.replyRead r 0).withSession s.connected false s.devaddr 0).withCode k) ∨
    (∃ r len, s.pending = true ∧ (s.replyAt 0).received 256 = some r ∧
      frameDecode r s.devaddr s.pendfunc = .ok len ∧
      t = ((s.replyRead r (len8 len)).withSession s.connected false s.devaddr 0).withCode .ok) := by
  cases hp : s.pending with
  | false => rw [exec_recv_illegal s hp] at h; cases h; exact .inl ⟨rfl, rfl⟩
  | true =>
    cases hr : (s.replyAt 0).received 256 with
    | none => rw [exec_recv_failed s hp hr] at h; cases h; exact .inr (.inl ⟨rfl, rfl, rfl⟩)
    | some r =>
      cases hd : frameDecode r s.devaddr s.pendfunc with
      | error k =>
        rw [exec_recv_error s r k hp hr hd] at h; cases h
        exact .inr (.inr (.inl ⟨r, k, rfl, rfl, hd, rfl⟩))
      | ok len =>
        rw [exec_recv_ok s r len hp hr hd] at h; cases h
        exact .inr (.inr (.inr ⟨r, len, rfl, rfl, hd, rfl⟩))

/-! ### `CONNECT` -/

theorem exec_connect_illegal (a : Byte) (s : State) (h : s.connected = true) :
    exec (.connect a) s = .next (s.withCode .illegalState) := by
  simp [exec, execConnect, h, complete]

theorem exec_connect_unopened (a : Byte) (s : State) (h : s.connected = false) (ho : (s.replyAt 0).accepted = false) :
    exec (.connect a) s = .next ((s.issue .tpOpen).withCode .transportError) := by
  simp [exec, execConnect, h, complete, tpOpen, ho]

theorem exec_connect_opened (a : Byte) (s : State) (h : s.connected = false) (ho : (s.replyAt 0).accepted = true) :
    exec (.connect a) s = .next
      (if (s.replyAt 1).written 4 = some 4 then identifyReply a (s.identificationSent a)
        else connectFail .transportError (s.identificationSent a)) := by
  simp only [exec, execConnect, h, tpOpen, ho, identify, tpWrite, Config.idFunction, Bool.false_eq_true, if_false, if_true,
    State.identificationSent]
  rw [buildFrame_wire a 0x11 0, show State.txSlice (s.issue .tpOpen) 2 (2 + 0) = [] from State.txSlice_empty _ _,
    State.replyAt_congr (s.issue .tpOpen) _ 0 (by simp) (by simp), State.issue_replyAt]
  rfl

theorem exec_connect_unwritten (a : Byte) (s : State) (h : s.connected = false) (ho : (s.replyAt 0).accepted = true)
    (hw : (s.replyAt 1).written 4 ≠ some 4) :
    exec (.connect a) s = .next (connectFail .transportError (s.identificationSent a)) := by
  rw [exec_connect_opened a s h ho, if_neg hw]

theorem exec_connect_unread (a : Byte) (s : State) (h : s.connected = false) (ho : (s.replyAt 0).accepted = true)
    (hw : (s.replyAt 1).written 4 = some 4) (hr : (s.replyAt 2).received 256 = none) :
    exec (.connect a) s = .next (connectFail .transportError (s.identificationSent a).readFailed) := by
  rw [exec_connect_opened a s h ho, if_pos hw]
  have hr' := (congrArg (fun q => q.received 256) (s.identificationSent_replyAt a 0)).trans hr
  rcases receiveReply_spec a 0x11 (s.identificationSent a) with ⟨_, h2⟩ | ⟨r, len, h1, _⟩ | ⟨r, k, h1, _⟩
  · simp only [identifyReply, Config.idFunction, h2]; rfl
  · rw [show _ = _ from hr'] at h1; cases h1
  · rw [show _ = _ from hr'] at h1; cases h1

theorem exec_connect_undecoded (a : Byte) (s : State) (r : List Byte) (k : StatusCode) (h : s.connected = false)
    (ho : (s.replyAt 0).accepted = true) (hw : (s.replyAt 1).written 4 = some 4)
    (hr : (s.replyAt 2).received 256 = some r) (hd : frameDecode r a 0x11 = .error k) :
    exec (.connect a) s = .next (connectFail k ((s.identificationSent a).replyRead r 0)) := by
  rw [exec_connect_opened a s h ho, if_pos hw]
  have hr' := (congrArg (fun q => q.received 256) (s.identificationSent_replyAt a 0)).trans hr
  rcases receiveReply_spec a 0x11 (s.identificationSent a) with ⟨h1, _⟩ | ⟨r', len, h1, h2, _⟩ | ⟨r', k', h1, h2, h3⟩
  · rw [show _ = _ from hr'] at h1; cases h1
  · rw [show _ = _ from hr'] at h1; cases h1; rw [hd] at h2; cases h2
  · rw [show _ = _ from hr'] at h1; cases h1; rw [hd] at h2; cases h2
    simp only [identifyReply, Config.idFunction, h3]
    rcases frameDecode_error r a 0x11 k hd with rfl | rfl | rfl <;> rfl

theorem exec_connect_ok (a : Byte) (s : State) (r : List Byte) (len : Nat) (h : s.connected = false)
    (ho : (s.replyAt 0).accepted = true) (hw : (s.replyAt 1).written 4 = some 4)
    (hr : (s.replyAt 2).received 256 = some r) (hd : frameDecode r a 0x11 = .ok len) :
    exec (.connect a) s = .next
      ((((s.identificationSent a).replyRead r (len8 len)).withSession true false a 0).withCode .ok) := by
  rw [exec_connect_opened a s h ho, if_pos hw]
  have hr' := (congrArg (fun q => q.received 256) (s.identificationSent_replyAt a 0)).trans hr
  rcases receiveReply_spec a 0x11 (s.identificationSent a) with ⟨h1, _⟩ | ⟨r', len', h1, h2, h3⟩ | ⟨r', k, h1, h2, _⟩
  · rw [show _ = _ from hr'] at h1; cases h1
  · rw [show _ = _ from hr'] at h1; cases h1; rw [hd] at h2; cases h2
    simp only [identifyReply, Config.idFunction, h3]; rfl
  · rw [show _ = _ from hr'] at h1; cases h1; rw [hd] at h2; cases h2

/-- Every path of `CONNECT`, with what leads to it. -/
theorem exec_connect_cases (a : Byte) (s t : State) (h : exec (.connect a) s = .next t) :
    (s.connected = true ∧ t = s.withCode .illegalState) ∨
    (s.connected = false ∧ (s.replyAt 0).accepted = false ∧ t = (s.issue .tpOpen).withCode .transportError) ∨
    (s.connected = false ∧ (s.replyAt 0).accepted = true ∧ (s.replyAt 1).written 4 ≠ some 4 ∧
      t = connectFail .transportError (s.identificationSent a)) ∨
    (s.connected = false ∧ (s.replyAt 0).accepted = true ∧ (s.replyAt 1).written 4 = some 4 ∧
      (s.replyAt 2).received 256 = none ∧ t = connectFail .transportError (s.identificationSent a).readFailed) ∨
    (∃ r k, s.connected = false ∧ (s.replyAt 0).accepted = true ∧ (s.replyAt 1).written 4 = some 4 ∧
      (s.replyAt 2).received 256 = some r ∧ frameDecode r a 0x11 = .error k ∧
      t = connectFail k ((s.identificationSent a).replyRead r 0)) ∨
    (∃ r len, s.connected = false ∧ (s.replyAt 0).accepted = true ∧ (s.replyAt 1).written 4 = some 4 ∧
      (s.replyAt 2).received 256 = some r ∧ frameDecode r a 0x11 = .ok len ∧
      t = (((s.identificationSent a).replyRead r (len8 len)).withSession true false a 0).withCode .ok) := by
  cases hc : s.connected with
  | true => rw [exec_connect_illegal a s hc] at h; cases h; exact .inl ⟨rfl, rfl⟩
  | false =>
    refine .inr ?_
    cases ho : (s.replyAt 0).accepted with
    | false => rw [exec_connect_unopened a s hc ho] at h; cases h; exact .inl ⟨rfl, rfl, rfl⟩
    | true =>
      refine .inr ?_
      by_cases hw : (s.replyAt 1).written 4 = some 4
      · refine .inr ?_
        cases hr : (s.replyAt 2).received 256 with
        | none => rw [exec_connect_unread a s hc ho hw hr] at h; cases h; exact .inl ⟨rfl, rfl, hw, rfl, rfl⟩
        | some r =>
          refine .inr ?_
          cases hd : frameDecode r a 0x11 with
          | error k =>
            rw [exec_connect_undecoded a s r k hc ho hw hr hd] at h; cases h
            exact .inl ⟨r, k, rfl, rfl, hw, rfl, hd, rfl⟩
          | ok len =>
            rw [exec_connect_ok a s r len hc ho hw hr hd] at h; cases h
            exact .inr ⟨r, len, rfl, rfl, hw, rfl, hd, rfl⟩
      · rw [exec_connect_unwritten a s hc ho hw] at h; cases h; exact .inl ⟨rfl, rfl, hw, rfl⟩

end Sys2Proof.Machine
end

