-- ==== Sys2Proof/Laws/Commands.lean ====
section
/-! SUPPORT. The commands of the CRC unit and the codec path by path, as chains of updates (40_crc.md R87 to R92, 41_codec.md R102, R104). -/

namespace Sys2Proof.Machine

theorem exec_crcTx_cases (s t : State) (h : exec .crcTx s = .next t) :
    (256 < s.clen.toNat ∧ t = s.withCode .invalidArgument) ∨
    (s.clen.toNat ≤ 256 ∧ t = (s.withCrc (packCrc (crc16 (s.txSlice 0 s.clen.toNat)))).withCode .ok) := by
  cases h
  unfold crcCommand
  split
  · rename_i hc; exact .inl ⟨(clenTooLong_iff s).1 hc, rfl⟩
  · rename_i hc; exact .inr ⟨Nat.not_lt.1 ((clenTooLong_iff s).not.1 hc), rfl⟩

theorem exec_crcRx_cases (s t : State) (h : exec .crcRx s = .next t) :
    (256 < s.clen.toNat ∧ t = s.withCode .invalidArgument) ∨
    (s.clen.toNat ≤ 256 ∧ t = (s.withCrc (packCrc (crc16 (s.rxSlice 0 s.clen.toNat)))).withCode .ok) := by
  cases h
  unfold crcCommand
  split
  · rename_i hc; exact .inl ⟨(clenTooLong_iff s).1 hc, rfl⟩
  · rename_i hc; exact .inr ⟨Nat.not_lt.1 ((clenTooLong_iff s).not.1 hc), rfl⟩

theorem exec_vfyTx_cases (s t : State) (h : exec .vfyTx s = .next t) :
    (256 < s.clen.toNat ∧ t = (s.withMatch false).withCode .invalidArgument) ∨
    (s.clen.toNat ≤ 256 ∧
      t = (s.withMatch (verify (s.txSlice 0 s.clen.toNat) (loByte s.exp) (hiByte s.exp))).withCode .ok) := by
  cases h
  unfold verifyCommand
  split
  · rename_i hc; exact .inl ⟨(clenTooLong_iff s).1 hc, rfl⟩
  · rename_i hc; exact .inr ⟨Nat.not_lt.1 ((clenTooLong_iff s).not.1 hc), rfl⟩

theorem exec_vfyRx_cases (s t : State) (h : exec .vfyRx s = .next t) :
    (256 < s.clen.toNat ∧ t = (s.withMatch false).withCode .invalidArgument) ∨
    (s.clen.toNat ≤ 256 ∧
      t = (s.withMatch (verify (s.rxSlice 0 s.clen.toNat) (loByte s.exp) (hiByte s.exp))).withCode .ok) := by
  cases h
  unfold verifyCommand
  split
  · rename_i hc; exact .inl ⟨(clenTooLong_iff s).1 hc, rfl⟩
  · rename_i hc; exact .inr ⟨Nat.not_lt.1 ((clenTooLong_iff s).not.1 hc), rfl⟩

theorem exec_enc_cases (s t : State) (h : exec .enc s = .next t) :
    (s.requestRefused = true ∧ t = (s.withTxlen 0).withCode .invalidArgument) ∨
    (s.requestRefused = false ∧ t = (buildFrame s.addr s.func s.plen.toNat s).withCode .ok) := by
  cases h
  cases hr : s.requestRefused
  · exact .inr ⟨rfl, rfl⟩
  · exact .inl ⟨rfl, rfl⟩

theorem exec_dec_cases (s t : State) (h : exec .dec s = .next t) :
    (256 < s.rxlen.toNat ∧ t = (s.withRplen 0).withCode .invalidArgument) ∨
    (∃ k, s.rxlen.toNat ≤ 256 ∧ frameDecode (s.rxSlice 0 s.rxlen.toNat) s.addr s.func = .error k ∧
      t = (s.withRplen 0).withCode k) ∨
    (∃ len, s.rxlen.toNat ≤ 256 ∧ frameDecode (s.rxSlice 0 s.rxlen.toNat) s.addr s.func = .ok len ∧
      t = (s.withRplen (len8 len)).withCode .ok) := by
  simp only [exec, execDec] at h
  split at h
  · rename_i hx
    cases h
    exact .inl ⟨(rxlenTooLong_iff s).1 hx, rfl⟩
  · rename_i hx
    have hl := Nat.not_lt.1 ((rxlenTooLong_iff s).not.1 hx)
    rcases decodeRx_spec s.rxlen.toNat s.addr s.func s with ⟨len, hd, he⟩ | ⟨k, hd, he⟩
    · rw [he] at h; cases h; exact .inr (.inr ⟨len, hl, hd, rfl⟩)
    · rw [he] at h; cases h; exact .inr (.inl ⟨k, hl, hd, rfl⟩)

end Sys2Proof.Machine
end

