-- ==== Sys2Proof/Laws/PerInstr.lean ====
section
/-! SUPPORT. Statements made once per command: its operation code and its immediate in the opcode map (30_encoding.md R65, R66). -/

namespace Sys2Proof.Laws.OpcodeRange

/-- The command is well formed, its `op` is in the map and at 0x80 or above, so that none can be mistaken for a function code; its
`arg` is 0 unless the map gives it one; and its mnemonic is a row of the map. -/
def Statement (i : Instr) : Prop :=
  i.wellFormed = true ∧ (opOf i).toNat ∈ definedOps ∧ 0x80 ≤ (opOf i).toNat ∧
  (argOf i = 0 ∨ (opOf i).toNat ∈ argOps) ∧ (opcodeRows.map OpcodeRow.mnemonic).contains (mnemonicOf i) = true

theorem crcInit : Statement .crcInit := by simp [Statement, Instr.wellFormed, opOf, argOf, definedOps, opcodeRows, mnemonicOf]
theorem crcByte (b : Byte) : Statement (.crcByte b) := by
  simp [Statement, Instr.wellFormed, opOf, argOf, definedOps, argOps, opcodeRows, mnemonicOf]
theorem crcTx : Statement .crcTx := by simp [Statement, Instr.wellFormed, opOf, argOf, definedOps, opcodeRows, mnemonicOf]
theorem crcRx : Statement .crcRx := by simp [Statement, Instr.wellFormed, opOf, argOf, definedOps, opcodeRows, mnemonicOf]
theorem vfyTx : Statement .vfyTx := by simp [Statement, Instr.wellFormed, opOf, argOf, definedOps, opcodeRows, mnemonicOf]
theorem vfyRx : Statement .vfyRx := by simp [Statement, Instr.wellFormed, opOf, argOf, definedOps, opcodeRows, mnemonicOf]
theorem enc : Statement .enc := by simp [Statement, Instr.wellFormed, opOf, argOf, definedOps, opcodeRows, mnemonicOf]
theorem dec : Statement .dec := by simp [Statement, Instr.wellFormed, opOf, argOf, definedOps, opcodeRows, mnemonicOf]
theorem connect (a : Byte) : Statement (.connect a) := by
  simp [Statement, Instr.wellFormed, opOf, argOf, definedOps, argOps, opcodeRows, mnemonicOf]
theorem send : Statement .send := by simp [Statement, Instr.wellFormed, opOf, argOf, definedOps, opcodeRows, mnemonicOf]
theorem recv : Statement .recv := by simp [Statement, Instr.wellFormed, opOf, argOf, definedOps, opcodeRows, mnemonicOf]
theorem disconnect : Statement .disconnect := by
  simp [Statement, Instr.wellFormed, opOf, argOf, definedOps, opcodeRows, mnemonicOf]

end Sys2Proof.Laws.OpcodeRange
end

