-- ==== Sys2Proof/Laws/Step.lean ====
section
/-! SUPPORT. What one step can do, said once: which event it takes, and the state each kind of event leaves. -/

namespace Sys2Proof.Machine

/-! ### Which register a number names (20_memory.md R41) -/

theorem controlReg_eq_cmd : ∀ i : Byte, controlReg i = .cmd → i.toNat = 0 := by decide

/-- `CMD` is register 0x000 and no other. -/
theorem hostReg_eq_cmd (n : RegNum) : hostReg n = .cmd ↔ n = 0x000 := by
  constructor
  · intro h
    by_cases hp : n.extractLsb' 8 3 = (0 : BitVec 3)
    · have hi : controlReg (n.extractLsb' 0 8) = .cmd := by
        rw [← h, hostReg]
        exact (if_pos hp).symm
      have h1 : n.toNat % 2 ^ 8 = 0 := by simpa using controlReg_eq_cmd _ hi
      have h2 : n.toNat / 2 ^ 8 % 2 ^ 3 = 0 := by
        simpa [BitVec.extractLsb'_toNat, Nat.shiftRight_eq_div_pow] using congrArg BitVec.toNat hp
      exact BitVec.eq_of_toNat_eq (show n.toNat = 0 by omega)
    · have hn : hostReg n ≠ .cmd := by
        rw [hostReg]
        simp only [if_neg hp]
        split_ifs <;> simp
      exact absurd h hn
  · rintro rfl
    decide

/-! ### A step, event by event -/

theorem step_idle (s : State) (h : s.events = []) : step s = .next s := by
  simp [step, stepEvents, h]

theorem step_read (s : State) (n : RegNum) (es : List Event) (h : s.events = .read n :: es) :
    step s = runRead n (s.withEvents es) := by
  simp [step, stepEvents, h, runEvent]

theorem step_cmd (s : State) (w : Word) (es : List Event) (h : s.events = .write 0x000 w :: es) :
    step s = runCommand w (s.withEvents es) := by
  simp only [step, stepEvents, h, runEvent, runWrite]
  rw [if_pos ((hostReg_eq_cmd _).2 rfl)]

theorem step_write (s : State) (n : RegNum) (v : Word) (es : List Event) (h : s.events = .write n v :: es) (hn : n ≠ 0x000) :
    step s = .next (hostWrite n v (s.withEvents es)) := by
  simp only [step, stepEvents, h, runEvent, runWrite]
  rw [if_neg ((hostReg_eq_cmd n).not.2 hn)]

theorem step_reset (s : State) (es : List Event) (h : s.events = .reset :: es) :
    step s = .next (resetBlock (s.withEvents es)) := by
  simp [step, stepEvents, h, runEvent]

theorem step_resetDuring (s : State) (w : Word) (calls : Nat) (es : List Event) (h : s.events = .resetDuring w calls :: es) :
    step s = runResetDuring w calls (s.withEvents es) := by
  simp [step, stepEvents, h, runEvent]

/-! ### The inversion of a step -/

theorem runCommand_cases (w : Word) (s t : State) (h : runCommand w s = .next t) :
    (∃ i, decode w = .ok i ∧ exec i s = .next t) ∨
    (∃ c, decode w = .error c ∧ t = s.withCode .illegalCommand) := by
  unfold runCommand at h
  split at h
  · exact .inl ⟨_, by assumption, h⟩
  · cases h; exact .inr ⟨_, by assumption, rfl⟩

/-- Everything a step can do. -/
theorem step_cases (s t : State) (h : step s = .next t) :
    (s.events = [] ∧ t = s) ∨
    (∃ n es, s.events = .read n :: es ∧
      t = (s.withEvents es).withReads (hostRead n (s.withEvents es) :: s.hostReads)) ∨
    (∃ n v es, s.events = .write n v :: es ∧ n ≠ 0x000 ∧ t = hostWrite n v (s.withEvents es)) ∨
    (∃ w es i, s.events = .write 0x000 w :: es ∧ decode w = .ok i ∧ exec i (s.withEvents es) = .next t) ∨
    (∃ w es c, s.events = .write 0x000 w :: es ∧ decode w = .error c ∧
      t = (s.withEvents es).withCode .illegalCommand) ∨
    (∃ es, s.events = .reset :: es ∧ t = resetBlock (s.withEvents es)) ∨
    (∃ w calls es whole, s.events = .resetDuring w calls :: es ∧ runCommand w (s.withEvents es) = .next whole ∧
      t = abandon calls (s.withEvents es) whole) := by
  cases he : s.events with
  | nil => rw [step_idle s he] at h; cases h; exact .inl ⟨rfl, rfl⟩
  | cons e es =>
    refine .inr ?_
    cases e with
    | read n => rw [step_read s n es he] at h; cases h; exact .inl ⟨n, es, rfl, rfl⟩
    | write n v =>
      refine .inr ?_
      by_cases hn : n = 0x000
      · subst hn
        rw [step_cmd s v es he] at h
        rcases runCommand_cases v _ t h with ⟨i, hd, hx⟩ | ⟨c, hd, ht⟩
        · exact .inr (.inl ⟨v, es, i, rfl, hd, hx⟩)
        · exact .inr (.inr (.inl ⟨v, es, c, rfl, hd, ht⟩))
      · rw [step_write s n v es he hn] at h; cases h; exact .inl ⟨n, v, es, rfl, hn, rfl⟩
    | reset =>
      rw [step_reset s es he] at h; cases h
      exact .inr (.inr (.inr (.inr (.inl ⟨es, rfl, rfl⟩))))
    | resetDuring w calls =>
      rw [step_resetDuring s w calls es he] at h
      unfold runResetDuring at h
      split at h
      · cases h
        exact .inr (.inr (.inr (.inr (.inr ⟨w, calls, es, _, rfl, by assumption, rfl⟩))))
      · cases h
      · cases h

/-! ### After a reset -/

/-- After a reset every register but the buffers reads as in `State.reset` (70_reset_and_hazards.md R230). -/
theorem resetBlock_regWord (s : State) (r : HostReg) (h : ∀ i, r ≠ .txbuf i) (h' : ∀ i, r ≠ .rxbuf i) :
    (resetBlock s).regWord r = State.reset.regWord r := by
  cases r <;> first | rfl | exact absurd rfl (h _) | exact absurd rfl (h' _)

/-- An abandoned command leaves a reset block: only the transport's side remembers it. -/
theorem abandon_eq (calls : Nat) (s t : State) :
    ∃ rs cs, abandon calls s t = resetBlock (s.withTp rs cs) := ⟨_, _, rfl⟩

end Sys2Proof.Machine
end

