-- ==== Sys2Proof/Tests/Slice0.lean ====
section
/-! SUPPORT. Tests. Expected values come from spec/95_test_vectors.md ("V<n>"), from the examples of the rules ("R<n>"), or are worked
out by hand from a rule. The theorems named witness_… show states and operands that meet the hypotheses of the statement named. -/

namespace Sys2Proof.Machine.Test

open Sys2Proof Sys2Proof.Machine

/-! ### Helpers -/

/-- The next state, if that is what the outcome is. -/
def nextOf (o : Host.Outcome State Fault Refusal) : Option State :=
  match o with
  | .next t => some t
  | .fault _ => none
  | .refused _ => none

/-- One fact about the next state. -/
def ends (o : Host.Outcome State Fault Refusal) (p : State → Bool) : Bool :=
  match nextOf o with
  | some t => p t
  | none => false

/-- The reset state with bytes written to `TXBUF[0 ..]` and `RXBUF[0 ..]`, and answers of the transport. -/
def mk (tx rx : List Byte) (rs : List Reply) : State :=
  { State.reset with txbuf := Memory.setFrom [] 0 tx, rxbuf := Memory.setFrom [] 0 rx, tpReplies := rs }

/-- Idle at an address. -/
def idle (s : State) (a : Byte) : State := s.withSession true false a 0

/-- Awaiting a function at an address. -/
def awaiting (s : State) (a f : Byte) : State := s.withSession true true a f

/-- The transport's `ok`. -/
def yes : Reply := ⟨false, 0, []⟩
/-- The transport's `error`. -/
def no : Reply := ⟨true, 0, []⟩
/-- The transport's answer to a write. -/
def wrote (n : Nat) : Reply := ⟨false, n, []⟩
/-- The transport's answer to a read. -/
def got (bs : List Byte) : Reply := ⟨false, 0, bs⟩

/-- The request of V21 staged at `TXBUF[2 ..]`: function 6, payload 00 04 04 B0. -/
def staged : State := ((mk [0, 0, 0x00, 0x04, 0x04, 0xB0] [] []).withFunc 6).withPlen 4

/-! ### Decoding: words written out from 30_encoding.md R65, R66 -/

theorem test_decode_crcInit : decode 0b00000000_00000000_00000000_10000000 = .ok .crcInit := by decide
theorem test_decode_crcByte : decode 0b00000000_00000000_10100101_10000001 = .ok (.crcByte 0xA5) := by decide
theorem test_decode_crcTx : decode 0b00000000_00000000_00000000_10000010 = .ok .crcTx := by decide
theorem test_decode_crcRx : decode 0b00000000_00000000_00000000_10000011 = .ok .crcRx := by decide
theorem test_decode_vfyTx : decode 0b00000000_00000000_00000000_10000100 = .ok .vfyTx := by decide
theorem test_decode_vfyRx : decode 0b00000000_00000000_00000000_10000101 = .ok .vfyRx := by decide
theorem test_decode_enc : decode 0b00000000_00000000_00000000_10100000 = .ok .enc := by decide
theorem test_decode_dec : decode 0b00000000_00000000_00000000_10100001 = .ok .dec := by decide
theorem test_decode_connect : decode 0b00000000_00000000_11111110_11000000 = .ok (.connect 0xFE) := by decide
theorem test_decode_send : decode 0b00000000_00000000_00000000_11000001 = .ok .send := by decide
theorem test_decode_recv : decode 0b00000000_00000000_00000000_11000010 = .ok .recv := by decide
theorem test_decode_disconnect : decode 0b00000000_00000000_00000000_11000011 = .ok .disconnect := by decide

/-- V99: none of these words is a command. -/
theorem test_decode_refuses :
    ([0x00000000, 0x00000001, 0x00000011, 0x00000086, 0x000000A2, 0x000000C4, 0x00010080, 0x00000180, 0x0000FFA0, 0x800000C1,
      0x000100C0, 0x00FF0081] : List Word).all (fun w => decide (nextOf (runCommand w State.reset) =
        some (State.reset.withCode .illegalCommand))) = true := by decide

theorem test_decode_names_the_cause :
    decode 0x00010080 = .error .reservedBits ∧ decode 0x00000086 = .error .unknownOp ∧ decode 0x00000180 = .error .nonzeroArg := by
  decide

/-- 20_memory.md R43: the word is one datum; a nonzero bit above 31 makes no command. -/
theorem test_decodeTableWord :
    decodeTableWord 32 0x0000FF81 = some (.crcByte 0xFF) ∧ decodeTableWord 32 0x00010080 = none ∧
    decodeTableWord 64 0x100000080 = none := by decide

theorem test_withFetchWord :
    nextOf (step (State.reset.withFetchWord 32 0x0000FF81)) = nextOf (exec (.crcByte 0xFF) State.reset) := by decide

/-! ### WellFormed: one ill-formed word per check (30_encoding.md R67) -/

theorem test_wf_reserved : reservedZero 0x00010080 = false ∧ wordWellFormed 0x00010080 = false := by decide
theorem test_wf_op : opDefined 0x00000086 = false ∧ wordWellFormed 0x00000086 = false := by decide
theorem test_wf_arg : argAllowed 0x00000180 = false ∧ wordWellFormed 0x00000180 = false := by decide
theorem test_wf_accepts : wordWellFormed 0x0000FF81 = true ∧ wordWellFormed 0x000000C3 = true := by decide

/-! ### The CRC unit -/

/-- Table spot checks of 95_test_vectors.md section 2. -/
theorem test_tables :
    thi 0 = 0x00 ∧ tlo 0 = 0x00 ∧ thi 1 = 0xC1 ∧ tlo 1 = 0xC0 ∧ thi 2 = 0x81 ∧ tlo 2 = 0xC1 ∧ thi 0x80 = 0x01 ∧ tlo 0x80 = 0xA0 ∧
    thi 0xFE = 0x81 ∧ tlo 0xFE = 0x80 ∧ thi 0xFF = 0x40 ∧ tlo 0xFF = 0x40 := by decide

/-- V5, a public check value, and V3. -/
theorem test_crc16_check_values :
    crc16 [0x31, 0x32, 0x33, 0x34, 0x35, 0x36, 0x37, 0x38, 0x39] = (0x37, 0x4B) ∧
    crc16 [0xFF] = (0xFF, 0x00) := by decide

/-- V19a. -/
theorem test_crcInit : ends (exec .crcInit ((State.reset.withCrc 0x1234).withMatch true))
    (fun t => t.crc == 0xFFFF && t.code == .ok && t.matched) = true := by decide

/-- A step from a value the host wrote (95_test_vectors.md section 2). -/
theorem test_crcByte : ends (exec (.crcByte 0xFF) (State.reset.withCrc 0x1234)) (fun t => t.crc == 0x9753) = true := by decide

/-- V19b. -/
theorem test_crcTx : ends (exec .crcTx (((mk [1, 3, 0, 0, 0, 0x0A] [] []).withClen 6).withCrc 0))
    (fun t => t.crc == 0xCDC5 && t.code == .ok) = true := by decide

/-- V19e. -/
theorem test_crcTx_too_long : ends (exec .crcTx ((State.reset.withClen 257).withCrc 0xCDC5))
    (fun t => t.crc == 0xCDC5 && t.code == .invalidArgument) = true := by decide

/-- R90. -/
theorem test_crcRx : ends (exec .crcRx ((mk [9, 9] [1, 6] []).withClen 2)) (fun t => t.crc == 0x2280) = true := by decide

/-- V19g. -/
theorem test_vfyTx_match :
    ends (exec .vfyTx ((((mk [1, 3, 0, 0, 0, 0x0A] [] []).withClen 6).withExp 0xCDC5).withCrc 0x1234))
      (fun t => t.statusWord == 0x10 && t.crc == 0x1234) = true := by decide

/-- V19h: the bytes swapped. -/
theorem test_vfyTx_mismatch :
    ends (exec .vfyTx ((((mk [1, 3, 0, 0, 0, 0x0A] [] []).withClen 6).withExp 0xC5CD).withMatch true))
      (fun t => t.statusWord == 0x00) = true := by decide

/-- V19l. -/
theorem test_vfyRx_match : ends (exec .vfyRx (((mk [9, 9] [1, 6, 0x80, 0x22] []).withClen 2).withExp 0x2280))
    (fun t => t.matched && t.code == .ok) = true := by decide

/-- V19f. -/
theorem test_vfyRx_too_long : ends (exec .vfyRx ((State.reset.withClen 511).withMatch true))
    (fun t => !t.matched && t.code == .invalidArgument) = true := by decide

/-! ### The codec -/

/-- V21: the frame in place, low CRC byte first, with `ADDR` as its address. -/
theorem test_enc : ends (exec .enc (staged.withAddr 1))
    (fun t => t.txSlice 0 8 == [1, 6, 0x00, 0x04, 0x04, 0xB0, 0xCB, 0x7F] && t.txlen == 8 && t.code == .ok) = true := by decide

/-- V32: function 128 is refused, and an earlier frame's length cleared. -/
theorem test_enc_refused : ends (exec .enc ((State.reset.withFunc 0x80).withTxlen 8))
    (fun t => t.txlen == 0 && t.txbuf == [] && t.code == .invalidArgument) = true := by decide

/-- V40. -/
theorem test_dec : ends (exec .dec ((((mk [] [1, 6, 0, 4, 4, 0xB0, 0xCB, 0x7F] []).withRxlen 8).withAddr 1).withFunc 6))
    (fun t => t.rplen == 4 && t.code == .ok) = true := by decide

/-- V42, V46, V49, V55: `ProtocolError`, `BadCrc` before it, `Timeout`, `InvalidArgument`. -/
theorem test_dec_errors :
    frameDecode [1, 6, 0x80, 0x22] 1 3 = .error .protocolError ∧ frameDecode [3, 6, 0x80, 0x22] 1 6 = .error .badCrc ∧
    frameDecode [1, 6, 0x80] 1 6 = .error .timeout ∧
    ends (exec .dec ((State.reset.withRxlen 257).withRplen 9)) (fun t => t.rplen == 0 && t.code == .invalidArgument) = true := by
  decide

/-! ### The session -/

/-- V61. -/
theorem test_connect :
    ends (exec (.connect 1) (mk [] [] [yes, wrote 4, got [1, 0x11, 9, 0xAA, 0xFF, 0xF2, 0x1E]]))
      (fun t => t.code == .ok && t.sessionWord == 0x00000101 && t.txSlice 0 4 == [1, 0x11, 0xC0, 0x2C] && t.txlen == 4 &&
        t.rxlen == 7 && t.rplen == 3 && t.rxSlice 2 5 == [9, 0xAA, 0xFF] &&
        t.tpCalls == [.tpRead 256, .tpWrite [1, 0x11, 0xC0, 0x2C], .tpOpen]) = true := by decide

/-- V63: a short write closes the transport. -/
theorem test_connect_short_write :
    ends (exec (.connect 7) (mk [] [] [yes, wrote 2, yes]))
      (fun t => t.code == .transportError && t.sessionWord == 0 && t.txSlice 0 4 == [7, 0x11, 0xC3, 0x8C] && t.txlen == 4 &&
        t.tpCalls == [.tpClose, .tpWrite [7, 0x11, 0xC3, 0x8C], .tpOpen]) = true := by decide

/-- V69: the address is the session's, not `ADDR`. -/
theorem test_send : ends (exec .send (idle ((staged.withAddr 9).withTp [wrote 8] []) 1))
    (fun t => t.code == .ok && t.sessionWord == 0x00060103 && t.txlen == 8 &&
      t.tpCalls == [.tpWrite [1, 6, 0, 4, 4, 0xB0, 0xCB, 0x7F]]) = true := by decide

/-- V74: the state is tested before the arguments. -/
theorem test_send_order : ends (exec .send (State.reset.withTxlen 8))
    (fun t => t.code == .illegalState && t.txlen == 8 && t.tpCalls == []) = true := by decide

/-- V81 and V86: the expected function is `PENDFUNC`; bytes past `RXLEN` stay. -/
theorem test_recv : ends (exec .recv (awaiting ((mk [] [1, 0x11, 9, 0xAA, 0xFF] [got [1, 6, 0x80, 0x22]]).withFunc 3) 1 6))
    (fun t => t.code == .ok && t.sessionWord == 0x00000101 && t.rxlen == 4 && t.rplen == 0 &&
      t.rxSlice 0 5 == [1, 6, 0x80, 0x22, 0xFF]) = true := by decide

/-- V80: a read error still ends the exchange. -/
theorem test_recv_error : ends (exec .recv (awaiting ((mk [] [] [no]).withRxlen 9) 1 6))
    (fun t => t.code == .transportError && t.sessionWord == 0x00000101 && t.rxlen == 0 && t.rplen == 0) = true := by decide

/-- V85: a failed close still disconnects. -/
theorem test_disconnect : ends (exec .disconnect (awaiting (mk [] [] [no]) 1 0x41))
    (fun t => t.code == .transportError && t.sessionWord == 0) = true := by decide

/-- V83: no transport transaction in Disconnected. -/
theorem test_disconnect_noop : ends (exec .disconnect (mk [] [] [no])) (fun t => t.code == .ok && t.tpCalls == []) = true := by
  decide

/-! ### Host access and reset -/

/-- V93, V90, V92. -/
theorem test_write_truncates :
    (hostWrite 0x00A 0xABCD1234 State.reset).crc = 0x1234 ∧ (hostWrite 0x003 0x00001234 State.reset).addr = 0x34 ∧
    (hostWrite 0x009 0x000003FF State.reset).clen = 511 := by decide

/-- V95: any `TXBUF` byte, also one outside the frame, clears `TXLEN`. -/
theorem test_write_txbuf :
    (hostWrite 0x1C8 0x1AB (State.reset.withTxlen 4)).txByte 200 = 0xAB ∧
    (hostWrite 0x1C8 0x1AB (State.reset.withTxlen 4)).txlen = 0 := by decide

/-- V97, V98. -/
theorem test_read_constants :
    hostRead 0x000 State.reset = 0 ∧ hostRead 0x00C State.reset = 0 ∧ hostRead 0x300 State.reset = 0 ∧
    hostRead 0x7FF State.reset = 0 ∧ hostRead 0x401 State.reset = 0xC1 ∧ hostRead 0x501 State.reset = 0xC0 ∧
    hostRead 0x4FF State.reset = 0x40 ∧ hostRead 0x5FF State.reset = 0x40 := by decide

/-- 20_memory.md R44: byte offsets 0x800 to 0x803 are all register 0x200. -/
theorem test_offset : regNumOfOffset 0x800 = 0x200 ∧ regNumOfOffset 0x803 = 0x200 := by decide

/-- R230, R231: a reset during a `SEND` that had issued its write leaves the session Disconnected and no close. -/
theorem test_reset_during_send :
    ends (step ((idle (staged.withTp [wrote 8] []) 1).withEvents [.resetDuring 0x000000C1 1]))
      (fun t => t.sessionWord == 0 && t.crc == 0xFFFF && t.txbuf == [] &&
        t.tpCalls == [.tpWrite [1, 6, 0, 4, 4, 0xB0, 0xCB, 0x7F]]) = true := by decide

/-! ### Witnesses: the hypotheses of the statements can be met -/

/-- Evaluate a property of the state an `exec` reaches: the state itself is the witness. -/
theorem next_of_ends {o : Host.Outcome State Fault Refusal} {p : State → Bool} (h : ends o p = true) :
    ∃ t, o = .next t ∧ p t = true := by
  cases o with
  | next t => exact ⟨t, rfl, h⟩
  | fault r => cases h
  | refused r => cases h

theorem witness_DecodeInvertsEncode : (Instr.crcByte 0xFF).wellFormed = true ∧ (Instr.disconnect).wellFormed = true := by decide

theorem witness_EncodeInvertsDecode : decode 0x0000FF81 = .ok (.crcByte 0xFF) := by decide

theorem witness_OpcodeTable : ⟨"CRC.BYTE", 0x00000081, 0xFFFF00FF⟩ ∈ opcodeRows := by decide

theorem witness_IllegalWord :
    wordWellFormed 0xFFFF0080 = false ∧ wordWellFormed 0x00010080 = false ∧ wordWellFormed 0x000000FF = false ∧
    wordWellFormed 0x0000FFC3 = false ∧ wordWellFormed 0x0000FF81 = true ∧
    (State.reset.withEvents [.write 0x000 0x000000FF]).events = .write 0x000 0x000000FF :: [] := by decide

theorem witness_StepRuns :
    (State.reset.withEvents [.write 0x000 0x000000A0]).events = .write 0x000 0x000000A0 :: [] ∧
    decode 0x000000A0 = .ok .enc ∧ decode 0x000001A0 = .error .nonzeroArg := by decide

theorem witness_HostRead :
    (State.reset.withEvents [.read 0x7FF, .reset]).events = .read 0x7FF :: [.reset] ∧
    (0x00C ≤ (0x00C : RegNum).toNat ∧ (0x00C : RegNum).toNat ≤ 0x0FF) ∧ (0x0FF : RegNum).toNat ≤ 0x0FF ∧
    (0x300 ≤ (0x300 : RegNum).toNat ∧ (0x3FF : RegNum).toNat ≤ 0x3FF) ∧ 0x600 ≤ (0x7FF : RegNum).toNat := by decide

theorem witness_ByteRegisters :
    (State.reset.withEvents [.write 0x003 0xFFFFFFFF]).events = .write 0x003 0xFFFFFFFF :: [] ∧
    (State.reset.withEvents [.write 0x004 0x00000100]).events = .write 0x004 0x00000100 :: [] ∧
    (State.reset.withEvents [.write 0x005 253]).events = .write 0x005 253 :: [] ∧
    (State.reset.func.toNat = 0) ∧ 127 < (State.reset.withFunc 128).func.toNat ∧ 252 < (State.reset.withPlen 253).plen.toNat ∧
    ((idle State.reset 1).connected = true ∧ (idle State.reset 1).pending = false) := by decide

theorem witness_LengthRegisters :
    (State.reset.withEvents [.write 0x007 511]).events = .write 0x007 511 :: [] ∧
    (State.reset.withEvents [.write 0x009 512]).events = .write 0x009 512 :: [] ∧
    256 < (State.reset.withClen 257).clen.toNat ∧ 256 < (State.reset.withRxlen 511).rxlen.toNat := by decide

theorem witness_CrcRegisters :
    (State.reset.withEvents [.write 0x00A 0xFFFF1234]).events = .write 0x00A 0xFFFF1234 :: [] ∧
    (State.reset.withEvents [.write 0x00B 0]).events = .write 0x00B 0 :: [] := by decide

theorem witness_ReadOnly :
    (State.reset.withEvents [.write 0x001 0x1F]).events = .write 0x001 0x1F :: [] ∧
    ([0x00C, 0x0FF, 0x300, 0x3FF, 0x400, 0x5FF, 0x600, 0x7FF] : List RegNum).all (fun n =>
      (0x400 ≤ n.toNat && n.toNat ≤ 0x5FF) || (0x00C ≤ n.toNat && n.toNat ≤ 0x0FF) ||
        (0x300 ≤ n.toNat && n.toNat ≤ 0x3FF) || 0x600 ≤ n.toNat) = true := by decide

theorem witness_TxbufWrite :
    (State.reset.withEvents [.write (0x100 + (255 : Byte).setWidth 11) 0x1AB]).events = .write 0x1FF 0x1AB :: [] := by decide

theorem witness_RxbufWrite :
    (State.reset.withEvents [.write (0x200 + (0 : Byte).setWidth 11) 0x1AB]).events = .write 0x200 0x1AB :: [] := by decide

theorem witness_Status :
    (∃ t, exec .crcInit State.reset = .next t) ∧ Instr.crcInit ≠ .vfyTx ∧ Instr.crcInit ≠ .vfyRx ∧
    (∃ t, step (State.reset.withEvents [.read 1]) = .next t) ∧
    (∃ t, step (State.reset.withEvents [.write 0x003 7]) = .next t) ∧ (0x003 : RegNum) ≠ 0x000 :=
  ⟨⟨_, rfl⟩, by decide, by decide, ⟨_, step_read _ 1 [] rfl⟩, ⟨_, step_write _ 3 7 [] rfl (by decide)⟩, by decide⟩

theorem witness_ResetEvent : (staged.withEvents [.reset]).events = .reset :: [] := by decide

/-- A reset that strikes `CONNECT` after two of its three transactions: two answers are used up. -/
theorem witness_ResetDuring :
    ((mk [] [] [yes, wrote 4, got []]).withEvents [.resetDuring 0x000001C0 2]).events = .resetDuring 0x000001C0 2 :: [] ∧
    ends (step ((mk [] [] [yes, wrote 4, got []]).withEvents [.resetDuring 0x000001C0 2]))
      (fun t => decide (t.tpReplies = [got []] ∧ t.tpCalls.length = 2)) = true := by decide

/-- A state with a built frame, an awaited reply and a decoded payload meets the invariants (a frame of V22). -/
def held : State := { awaiting ((mk [1, 6, 0x80, 0x22] [1, 6, 0x80, 0x22] [got [1, 6, 0x80, 0x22]]).withTxlen 4) 1 6 with rplen := 252 }

theorem witness_BlockInv : BlockInv held ∧ ∃ t, step held = .next t :=
  ⟨⟨fun _ => rfl, .inr (by decide), by decide, fun h => (by cases h), fun h => (by cases h), fun _ => by decide, by decide⟩,
    ⟨_, step_idle held rfl⟩⟩

theorem witness_Canonical : buffersCanonical held ∧ ∃ t, step held = .next t :=
  ⟨⟨by decide, by decide⟩, ⟨_, step_idle held rfl⟩⟩

/-- A run from reset that ends Awaiting (V60, then V69's request with an empty payload). -/
def wakes : State :=
  resetInWorld [.write 0x000 0x000001C0, .write 0x004 6, .write 0x000 0x000000C1]
    [yes, wrote 4, got [1, 0x11, 0xC0, 0x2C], wrote 4] 0

theorem witness_Reachable :
    ends (core.run 3 wakes) (fun t => t.code == .ok && t.sessionWord == 0x00060103 && t.txlen == 4) = true := by decide

theorem witness_CrcLaws : ([1, 2, 3] : List Byte).length = ([0, 0x80, 0] : List Byte).length := by decide

theorem witness_SingleBitFlip :
    frameEncode 1 6 [0, 4, 4, 0xB0] = .ok [1, 6, 0, 4, 4, 0xB0, 0xCB, 0x7F] ∧ 0 < 8 * 8 ∧ 63 < 8 * 8 ∧
    flipBit [1, 6, 0, 4, 4, 0xB0, 0xCB, 0x7F] 24 = [1, 6, 0, 5, 4, 0xB0, 0xCB, 0x7F] := by decide

theorem witness_LengthClauses :
    256 < (State.reset.withClen 257).clen.toNat ∧ 256 < (State.reset.withClen 511).clen.toNat ∧
    (State.reset.withClen 0).clen.toNat ≤ 256 ∧ (State.reset.withClen 256).clen.toNat ≤ 256 := by decide

theorem witness_FrameEncode :
    (0 : Byte).toNat = 0 ∧ 127 < (128 : Byte).toNat ∧ 252 < (List.replicate 253 (0 : Byte)).length ∧
    1 ≤ (1 : Byte).toNat ∧ (127 : Byte).toNat ≤ 127 ∧ (List.replicate 252 (0 : Byte)).length ≤ 252 :=
  ⟨by decide, by decide, by rw [List.length_replicate]; decide, by decide, by decide, Nat.le_of_eq List.length_replicate⟩

theorem witness_FrameDecode :
    ([1, 6, 0x80] : List Byte).length < 4 ∧ crc16 ([1, 6] ++ []) ≠ (0x22, 0x80) ∧
    crc16 ([1, 6] ++ []) = (0x80, 0x22) ∧ ((1 : Byte) ≠ 2 ∨ (6 : Byte) ≠ 6) := by decide

theorem witness_Enc :
    State.reset.func.toNat = 0 ∧ 127 < (State.reset.withFunc 128).func.toNat ∧ 252 < (State.reset.withPlen 253).plen.toNat ∧
    1 ≤ (State.reset.withFunc 1).func.toNat ∧ (State.reset.withFunc 127).func.toNat ≤ 127 ∧
    (State.reset.withPlen 252).plen.toNat ≤ 252 ∧ State.reset.plen.toNat ≤ 252 := by decide

/-- V40's frame in `RXBUF`, to be decoded. -/
def framed : State := (((mk [] [1, 6, 0, 4, 4, 0xB0, 0xCB, 0x7F] []).withRxlen 8).withAddr 1).withFunc 6

theorem witness_Dec :
    256 < (State.reset.withRxlen 257).rxlen.toNat ∧ 256 < (State.reset.withRxlen 511).rxlen.toNat ∧
    (State.reset.rxlen.toNat ≤ 256 ∧ frameDecode (State.reset.rxSlice 0 State.reset.rxlen.toNat) 0 0 = .error .timeout) ∧
    (framed.rxlen.toNat ≤ 256 ∧ frameDecode (framed.rxSlice 0 framed.rxlen.toNat) framed.addr framed.func = .ok 4) := by decide

/-- The frame `ENC` builds from `staged`, and the same frame copied to `RXBUF`. -/
theorem witness_EncodeThenDecode :
    ends (exec .enc (staged.withAddr 1)) (fun t => t.code == .ok && framed.addr == t.addr && framed.func == t.func &&
      framed.rxlen == t.txlen && framed.rxSlice 0 8 == t.txSlice 0 8 && t.txlen == 8) = true := by decide

theorem witness_Foreign : frameEncode 1 6 [] = .ok [1, 6, 0x80, 0x22] ∧ ((1 : Byte), (6 : Byte)) ≠ (1, 3) := by decide

/-- One world for each path of `CONNECT` (V68, V62, V63 and V71's error, V64, V65, V60). -/
theorem witness_Connect :
    (idle State.reset 1).connected = true ∧
    ((mk [] [] [no]).connected = false ∧ ((mk [] [] [no]).replyAt 0).accepted = false) ∧
    (((mk [] [] [yes, wrote 2]).replyAt 0).accepted = true ∧ ((mk [] [] [yes, wrote 2]).replyAt 1).written 4 ≠ some 4) ∧
    ((mk [] [] [yes, no]).replyAt 1).written 4 ≠ some 4 ∧
    (((mk [] [] [yes, wrote 4, no]).replyAt 1).written 4 = some 4 ∧
      ((mk [] [] [yes, wrote 4, no]).replyAt 2).received 256 = none) ∧
    (((mk [] [] [yes, wrote 4, got [7, 0x11, 0xC3]]).replyAt 2).received 256 = some [7, 0x11, 0xC3] ∧
      frameDecode [7, 0x11, 0xC3] 7 0x11 = .error .timeout) ∧
    (((mk [] [] [yes, wrote 4, got [1, 0x11, 0xC0, 0x2C]]).replyAt 2).received 256 = some [1, 0x11, 0xC0, 0x2C] ∧
      frameDecode [1, 0x11, 0xC0, 0x2C] 1 0x11 = .ok 0) := by decide

/-- `SEND` outside Idle (V75), refused (V72, V73), written short and in error (V70, V71), and whole (V69). -/
theorem witness_Send :
    ¬ (awaiting State.reset 1 6).isIdle ∧ ¬ State.reset.isIdle ∧ (idle staged 1).isIdle ∧
    (idle State.reset 1).func.toNat = 0 ∧ 252 < ((idle State.reset 1).withPlen 253).plen.toNat ∧
    1 ≤ (idle staged 1).func.toNat ∧ (idle staged 1).func.toNat ≤ 127 ∧ (idle staged 1).plen.toNat ≤ 252 ∧
    (((idle (staged.withTp [wrote 7] []) 1).replyAt 0).written (4 + 4) ≠ some (4 + 4)) ∧
    (((idle (staged.withTp [no] []) 1).replyAt 0).written (4 + 4) ≠ some (4 + 4)) ∧
    (((idle (staged.withTp [wrote 8] []) 1).replyAt 0).written (4 + 4) = some (4 + 4)) :=
  ⟨fun h => absurd h.2 (by decide), fun h => absurd h.1 (by decide), ⟨rfl, rfl⟩, by decide⟩

/-- `RECV` outside Awaiting, and with an error, an undecodable and a good answer (V80, V78, V76). -/
theorem witness_Recv :
    State.reset.pending = false ∧ (awaiting (mk [] [] [no]) 1 6).pending = true ∧
    ((awaiting (mk [] [] [no]) 1 6).replyAt 0).received 256 = none ∧
    (((awaiting (mk [] [] [got []]) 1 6).replyAt 0).received 256 = some [] ∧ frameDecode [] 1 6 = .error .timeout) ∧
    (((awaiting (mk [] [] [got [1, 6, 0x80, 0x22]]) 1 6).replyAt 0).received 256 = some [1, 6, 0x80, 0x22] ∧
      frameDecode [1, 6, 0x80, 0x22] 1 6 = .ok 0) := by decide

theorem witness_Disconnect : State.reset.connected = false ∧ (idle State.reset 1).connected = true := by decide

/-- Each state of the session, with a next state of each session command and of a command outside the unit. -/
theorem witness_Transitions :
    State.reset.isDisconnected ∧ (idle State.reset 1).isIdle ∧ (awaiting State.reset 1 6).isAwaiting ∧
    (∃ t, exec (.connect 1) State.reset = .next t) ∧ (∃ t, exec .send (idle staged 1) = .next t) ∧
    (∃ t, exec .recv (awaiting State.reset 1 6) = .next t) ∧ (∃ t, exec .disconnect (idle State.reset 1) = .next t) ∧
    (∃ t, exec .enc staged = .next t) ∧ isSessionCommand .enc = false ∧ isSessionCommand .recv = true ∧
    (∃ t, step (State.reset.withEvents [.write 0x100 7]) = .next t) ∧
    (∃ t, step (State.reset.withEvents [.read 0x100]) = .next t) :=
  ⟨⟨rfl, rfl⟩, ⟨rfl, rfl⟩, ⟨rfl, rfl⟩, ⟨_, rfl⟩, ⟨_, rfl⟩, ⟨_, rfl⟩, ⟨_, rfl⟩, ⟨_, rfl⟩, rfl, rfl,
    ⟨_, step_write _ 0x100 7 [] rfl (by decide)⟩, ⟨_, step_read _ 0x100 [] rfl⟩⟩

theorem reset_inv : BlockInv State.reset :=
  ⟨fun h => (by cases h), .inl rfl, by decide, fun _ => rfl, fun _ => rfl, fun h => (by cases h), by decide⟩

/-- Invariant states outside Awaiting and outside Idle; and a step after which a reply is outstanding. -/
theorem witness_OneRequest :
    (BlockInv State.reset ∧ ¬ State.reset.isAwaiting ∧ ¬ State.reset.isIdle) ∧
    ends (step ((idle (staged.withTp [wrote 8] []) 1).withEvents [.write 0x000 0x000000C1])) (fun t => t.pending) = true ∧
    ((idle (staged.withTp [wrote 8] []) 1).withEvents [.write 0x000 0x000000C1]).pending = false :=
  ⟨⟨reset_inv, fun h => absurd h.1 (by decide), fun h => absurd h.1 (by decide)⟩, by decide, by decide⟩

theorem witness_CrcWriters :
    writesCrc .enc = false ∧ (∃ t, exec .enc staged = .next t) ∧
    ends (step ((State.reset.withCrc 5).withEvents [.write 0x000 0x00000080])) (fun t => t.crc == 0xFFFF) = true ∧
    ends (step ((State.reset.withCrc 5).withEvents [.write 0x00A 6])) (fun t => t.crc == 6) = true ∧
    ends (step ((State.reset.withCrc 5).withEvents [.reset])) (fun t => t.crc == 0xFFFF) = true ∧
    ends (step ((State.reset.withCrc 5).withEvents [.resetDuring 0xA0 0])) (fun t => t.crc == 0xFFFF) = true :=
  ⟨rfl, ⟨_, rfl⟩, by decide, by decide, by decide, by decide⟩

/-- Next states of commands that store and of one that stores nothing; the last frame byte of `ENC`, `SEND` and `CONNECT`, and the last reply
byte of `RECV` and `CONNECT`, are stored; the payload byte below the one, the byte above the other, and everything on a
path that ends early, are not. -/
theorem witness_CommandsChange :
    ((∃ t, exec .dec framed = .next t) ∧ (∃ t, exec .enc staged = .next t) ∧ (∃ t, exec .send (idle staged 1) = .next t) ∧
      (∃ t, exec .recv (awaiting (mk [] [] [got [1, 6]]) 1 6) = .next t) ∧
      ∃ t, exec (.connect 1) (mk [] [] [yes, wrote 4, got [1, 6]]) = .next t) ∧
    (storesTo .enc staged (.txbuf 7) ∧ ¬ storesTo .enc staged (.txbuf 5) ∧ ¬ storesTo .enc (staged.withFunc 0) (.txbuf 7)) ∧
    (storesTo .send (idle staged 1) (.txbuf 7) ∧ ¬ storesTo .send staged (.txbuf 7)) ∧
    (storesTo .recv (awaiting (mk [] [] [got [1, 6]]) 1 6) (.rxbuf 1) ∧
      ¬ storesTo .recv (awaiting (mk [] [] [got [1, 6]]) 1 6) (.rxbuf 2) ∧
      ¬ storesTo .recv (awaiting (mk [] [] [no]) 1 6) (.rxbuf 0)) ∧
    (storesTo (.connect 1) (mk [] [] [yes, wrote 4, got [1, 6]]) (.txbuf 3) ∧
      storesTo (.connect 1) (mk [] [] [yes, wrote 4, got [1, 6]]) (.rxbuf 1) ∧
      ¬ storesTo (.connect 1) (mk [] [] [no, wrote 4, got [1, 6]]) (.txbuf 3) ∧
      ¬ storesTo (.connect 1) (mk [] [] [yes, wrote 3, got [1, 6]]) (.rxbuf 1)) := by
  refine ⟨⟨⟨_, rfl⟩, ⟨_, rfl⟩, ⟨_, rfl⟩, ⟨_, rfl⟩, ⟨_, rfl⟩⟩, ⟨⟨rfl, 7, rfl, by decide⟩, ?_, ?_⟩, ⟨⟨rfl, rfl, rfl, 7, rfl, by decide⟩, ?_⟩,
    ⟨⟨rfl, _, rfl, 1, rfl, by decide⟩, ?_, ?_⟩,
    ⟨⟨rfl, rfl, .inl ⟨3, rfl, by decide⟩⟩, ⟨rfl, rfl, .inr ⟨rfl, _, rfl, 1, rfl, by decide⟩⟩, ?_, ?_⟩⟩
  · rintro ⟨-, i, hi, h⟩; cases hi; exact absurd h (by decide)
  · rintro ⟨h, -⟩; exact absurd h (by decide)
  · rintro ⟨h, -⟩; exact absurd h (by decide)
  · rintro ⟨-, bs, hb, i, hi, h⟩; cases hi; cases hb; exact absurd h (by decide)
  · rintro ⟨-, bs, hb, -⟩; exact absurd hb (by decide +revert)
  · rintro ⟨-, h, -⟩; exact absurd h (by decide)
  · rintro ⟨-, -, ⟨i, hi, -⟩ | ⟨h, -⟩⟩
    · cases hi
    · exact absurd h (by decide)

theorem witness_Transport :
    (tpWrite [1, 6, 0x80, 0x22] (mk [] [] [wrote 4])).1 = some 4 ∧ (tpRead (mk [] [] [got []])).1 = some [] ∧
    4 ≤ ([1, 6, 0x80, 0x22] : List Byte).length ∧ (List.replicate 256 (0 : Byte)).length ≤ 256 :=
  ⟨by decide, by decide, by decide, Nat.le_of_eq List.length_replicate⟩

/-- `execAll` runs: the program P1 up to its first byte gives the CRC of one byte (V4). -/
theorem witness_CrcByte : ends (execAll [.crcInit, .crcByte 0x01] State.reset) (fun t => t.crc == 0x807E) = true := by decide

/-! ### The script notation (30_encoding.md R71) -/

theorem test_script_payload :
    scriptPayload [0x00, 0x04] = [.write 0x102 0x00, .write 0x103 0x04, .write 0x005 2] ∧ scriptPayload [] = [.write 0x005 0] := by
  decide

theorem test_script_request :
    scriptRequest 6 [] = [.write 0x005 0, .write 0x004 6, .write 0x000 0x000000C1, .read 0x001] ∧
    scriptRequestReply State.reset = [.write 0x000 0x000000C2, .read 0x001] := by decide

end Sys2Proof.Machine.Test
end

/-! SUPPORT. The command word as its three fields (30_encoding.md R65), the decoder as an equivalence on them (R66, R67), and the rows of the
opcode table. -/

namespace Sys2Proof

/-! ### A word is its three fields (R65) -/

theorem fields_append (w : Word) : reservedField w ++ (argField w ++ opField w) = w := by
  have low : argField w ++ opField w = w.extractLsb' 0 16 := BitVec.extractLsb'_append_extractLsb'_eq_extractLsb' rfl
  rw [low]
  exact (BitVec.extractLsb'_append_extractLsb'_eq_extractLsb' rfl).trans BitVec.extractLsb'_eq_self

theorem word_eq_iff_fields (v w : Word) :
    v = w ↔ reservedField v = reservedField w ∧ argField v = argField w ∧ opField v = opField w := by
  constructor
  · rintro rfl
    exact ⟨rfl, rfl, rfl⟩
  · rintro ⟨hr, ha, ho⟩
    rw [← fields_append v, ← fields_append w, hr, ha, ho]

@[simp] theorem opField_and (v w : Word) : opField (v &&& w) = opField v &&& opField w := BitVec.extractLsb'_and
@[simp] theorem argField_and (v w : Word) : argField (v &&& w) = argField v &&& argField w := BitVec.extractLsb'_and
@[simp] theorem reservedField_and (v w : Word) : reservedField (v &&& w) = reservedField v &&& reservedField w :=
  BitVec.extractLsb'_and

/-- No bit lies at or above the width. -/
theorem extractLsb'_of_width_le {n : Nat} (x : BitVec n) (start len : Nat) (h : n ≤ start) : x.extractLsb' start len = 0 := by
  refine BitVec.eq_of_getLsbD_eq fun k _ => ?_
  have hk : x.getLsbD (start + k) = false := BitVec.getLsbD_of_ge x _ (by omega)
  simp [hk]

@[simp] theorem opField_setWidth (b : Byte) : opField (b.setWidth 32) = b := by
  rw [opField, BitVec.extractLsb'_setWidth_of_le (by decide), BitVec.extractLsb'_eq_self]

@[simp] theorem argField_setWidth (b : Byte) : argField (b.setWidth 32) = 0 := by
  rw [argField, BitVec.extractLsb'_setWidth_of_le (by decide)]
  exact extractLsb'_of_width_le b _ _ (by decide)

@[simp] theorem reservedField_setWidth (b : Byte) : reservedField (b.setWidth 32) = 0 := by
  rw [reservedField, BitVec.extractLsb'_setWidth_of_le (by decide)]
  exact extractLsb'_of_width_le b _ _ (by decide)

/-! ### The commands and their fields (R65, R66) -/

/-- The twelve commands in the order of R66, those that take an immediate with `arg`. -/
def commandsWith (arg : Byte) : List Instr :=
  [.crcInit, .crcByte arg, .crcTx, .crcRx, .vfyTx, .vfyRx, .enc, .dec, .connect arg, .send, .recv, .disconnect]

theorem definedOps_eq_map_opOf (arg : Byte) : definedOps = (commandsWith arg).map fun i => (opOf i).toNat := rfl

theorem mem_commandsWith_argOf (i : Instr) : i ∈ commandsWith (argOf i) := by
  cases i <;> simp [commandsWith, argOf]

/-- The immediate is used by the commands with an `op` in `argOps` and by no other. -/
theorem argOf_of_mem_commandsWith (arg : Byte) (i : Instr) (h : i ∈ commandsWith arg) :
    argOf i = if (opOf i).toNat ∈ argOps then arg else 0 := by
  revert i
  simp [commandsWith, argOf, opOf, argOps]

theorem opcodeRange_statement : ∀ i : Instr, Laws.OpcodeRange.Statement i
  | .crcInit => Laws.OpcodeRange.crcInit
  | .crcByte b => Laws.OpcodeRange.crcByte b
  | .crcTx => Laws.OpcodeRange.crcTx
  | .crcRx => Laws.OpcodeRange.crcRx
  | .vfyTx => Laws.OpcodeRange.vfyTx
  | .vfyRx => Laws.OpcodeRange.vfyRx
  | .enc => Laws.OpcodeRange.enc
  | .dec => Laws.OpcodeRange.dec
  | .connect a => Laws.OpcodeRange.connect a
  | .send => Laws.OpcodeRange.send
  | .recv => Laws.OpcodeRange.recv
  | .disconnect => Laws.OpcodeRange.disconnect

/-- The fields of a command pass the second and third check of R67. -/
theorem opOf_defined_argOf_allowed (i : Instr) :
    (opOf i).toNat ∈ definedOps ∧ ((opOf i).toNat ∈ argOps ∨ argOf i = 0) := by
  obtain ⟨-, hop, -, harg, -⟩ := opcodeRange_statement i
  exact ⟨hop, harg.symm⟩

/-- The pairs of `op` and `arg` that name a command (R67). -/
theorem exists_command_iff (op arg : Byte) :
    (∃ i, op = opOf i ∧ arg = argOf i) ↔ op.toNat ∈ definedOps ∧ (op.toNat ∈ argOps ∨ arg = 0) := by
  constructor
  · rintro ⟨i, rfl, rfl⟩
    exact opOf_defined_argOf_allowed i
  · rintro ⟨hop, harg⟩
    rw [definedOps_eq_map_opOf arg] at hop
    obtain ⟨i, hi, hio⟩ := List.mem_map.1 hop
    obtain rfl : opOf i = op := BitVec.eq_of_toNat_eq hio
    refine ⟨i, rfl, ?_⟩
    rw [argOf_of_mem_commandsWith arg i hi]
    split_ifs with hm
    · rfl
    · exact harg.resolve_left hm

/-! ### The decoder (R65 to R67) -/

theorem decodeNoArg_eq_ok_iff (arg : Byte) (i j : Instr) : decodeNoArg arg i = .ok j ↔ arg = 0 ∧ i = j := by
  unfold decodeNoArg
  split_ifs with h
  · simp only [h, Except.ok.injEq, true_and]
  · exact iff_of_false nofun fun hi => h hi.1

section
variable {op arg : Byte} {rest : Except IllegalWord Instr} {i : Instr}

/-- An arm of `decodeOp` for a command that takes no `arg`. -/
theorem fields_of_noArg_arm (j : Instr) (hj : argOf j = 0)
    (hrest : rest = .ok i → op = opOf i ∧ arg = argOf i)
    (h : (if op = opOf j then decodeNoArg arg j else rest) = .ok i) : op = opOf i ∧ arg = argOf i := by
  split_ifs at h with hop
  · obtain ⟨harg, rfl⟩ := (decodeNoArg_eq_ok_iff arg j i).1 h
    exact ⟨hop, harg.trans hj.symm⟩
  · exact hrest h

/-- An arm of `decodeOp` for a command that takes an `arg`. -/
theorem fields_of_arg_arm (j : Instr) (hj : argOf j = arg)
    (hrest : rest = .ok i → op = opOf i ∧ arg = argOf i)
    (h : (if op = opOf j then .ok j else rest) = .ok i) : op = opOf i ∧ arg = argOf i := by
  split_ifs at h with hop
  · obtain rfl : j = i := Except.ok.inj h
    exact ⟨hop, hj.symm⟩
  · exact hrest h

end

theorem decodeOp_eq_ok_iff (op arg : Byte) (i : Instr) : decodeOp op arg = .ok i ↔ op = opOf i ∧ arg = argOf i := by
  constructor
  · exact fields_of_noArg_arm .crcInit rfl <| fields_of_arg_arm (.crcByte arg) rfl <|
      fields_of_noArg_arm .crcTx rfl <| fields_of_noArg_arm .crcRx rfl <|
      fields_of_noArg_arm .vfyTx rfl <| fields_of_noArg_arm .vfyRx rfl <|
      fields_of_noArg_arm .enc rfl <| fields_of_noArg_arm .dec rfl <|
      fields_of_arg_arm (.connect arg) rfl <| fields_of_noArg_arm .send rfl <|
      fields_of_noArg_arm .recv rfl <| fields_of_noArg_arm .disconnect rfl fun h => nomatch h
  · rintro ⟨rfl, rfl⟩
    cases i <;> rfl

theorem decode_eq_ok_iff (w : Word) (i : Instr) :
    decode w = .ok i ↔ reservedField w = 0 ∧ opField w = opOf i ∧ argField w = argOf i := by
  unfold decode
  split_ifs with h
  · rw [decodeOp_eq_ok_iff, and_iff_right h]
  · exact iff_of_false nofun fun hw => h hw.1

theorem opField_toNat (w : Word) : (opField w).toNat = w.toNat % 256 := by
  simp [opField, BitVec.extractLsb'_toNat]

theorem argField_toNat (w : Word) : (argField w).toNat = w.toNat / 256 % 256 := by
  simp [argField, BitVec.extractLsb'_toNat, Nat.shiftRight_eq_div_pow]

theorem reservedField_toNat (w : Word) : (reservedField w).toNat = w.toNat / 65536 % 65536 := by
  simp [reservedField, BitVec.extractLsb'_toNat, Nat.shiftRight_eq_div_pow]

theorem reservedZero_iff (w : Word) : reservedZero w = true ↔ reservedField w = 0 := by
  have hw := w.isLt
  have hr : reservedField w = 0 ↔ (reservedField w).toNat = 0 := BitVec.toNat_inj.symm
  rw [hr, reservedField_toNat, reservedZero, beq_iff_eq]
  omega

theorem wordWellFormed_iff (w : Word) : wordWellFormed w = true ↔
    reservedField w = 0 ∧ (opField w).toNat ∈ definedOps ∧ ((opField w).toNat ∈ argOps ∨ argField w = 0) := by
  have harg : argField w = 0 ↔ w.toNat / 256 % 256 = 0 := by
    rw [← argField_toNat]
    exact BitVec.toNat_inj.symm
  rw [harg]
  simp [wordWellFormed, opDefined, argAllowed, reservedZero_iff, opField_toNat, and_assoc]

/-- The three checks of R67 accept exactly the words the decoder accepts. -/
theorem wordWellFormed_iff_decodes (w : Word) : wordWellFormed w = true ↔ ∃ i, decode w = .ok i := by
  simp only [wordWellFormed_iff, decode_eq_ok_iff, exists_and_left, exists_command_iff]

theorem decode_error_of_not_wellFormed (w : Word) (h : wordWellFormed w = false) : ∃ c, decode w = .error c := by
  cases hd : decode w with
  | error c => exact ⟨c, rfl⟩
  | ok i =>
    have hw : wordWellFormed w = true := (wordWellFormed_iff_decodes w).2 ⟨i, hd⟩
    exact absurd hw (by simp [h])

/-! ### The rows of the opcode table (R66) -/

/-- The mask of a command's row. -/
def maskOf (i : Instr) : Word := if (opOf i).toNat ∈ argOps then 0xFFFF00FF else 0xFFFFFFFF

/-- The row of a command. -/
def rowOf (i : Instr) : OpcodeRow := ⟨mnemonicOf i, (opOf i).setWidth 32, maskOf i⟩

theorem opcodeRows_eq_map_rowOf (arg : Byte) : opcodeRows = (commandsWith arg).map rowOf := rfl

theorem rowOf_mem_opcodeRows (i : Instr) : rowOf i ∈ opcodeRows := by
  rw [opcodeRows_eq_map_rowOf (argOf i)]
  exact List.mem_map_of_mem (mem_commandsWith_argOf i)

theorem opcodeRows_mnemonic_injective :
    ∀ r ∈ opcodeRows, ∀ r' ∈ opcodeRows, r.mnemonic = r'.mnemonic → r = r' := by decide

/-- The table has one row with a command's mnemonic. -/
theorem exists_row_iff (i : Instr) (P : OpcodeRow → Prop) :
    (∃ r ∈ opcodeRows, r.mnemonic = mnemonicOf i ∧ P r) ↔ P (rowOf i) := by
  constructor
  · rintro ⟨r, hr, hm, hp⟩
    rwa [← opcodeRows_mnemonic_injective r hr (rowOf i) (rowOf_mem_opcodeRows i) hm]
  · intro hp
    exact ⟨rowOf i, rowOf_mem_opcodeRows i, rfl, hp⟩

theorem and_argMask_eq_iff (w : Word) (op : Byte) :
    w &&& 0xFFFF00FF = op.setWidth 32 ↔ reservedField w = 0 ∧ opField w = op := by
  have hr : reservedField 0xFFFF00FF = BitVec.allOnes 16 := by decide
  have ha : argField 0xFFFF00FF = 0 := by decide
  have ho : opField 0xFFFF00FF = BitVec.allOnes 8 := by decide
  rw [word_eq_iff_fields, reservedField_and, argField_and, opField_and, hr, ha, ho, BitVec.and_allOnes, BitVec.and_allOnes]
  simp

theorem eq_setWidth_iff (w : Word) (op : Byte) :
    w = op.setWidth 32 ↔ reservedField w = 0 ∧ argField w = 0 ∧ opField w = op := by
  simp [word_eq_iff_fields]

/-- A row selects by the reserved bits, by `op`, and, where no `arg` is taken, by `arg`. -/
theorem rowOf_selectedBy_iff (i : Instr) (w : Word) : (rowOf i).selectedBy w = true ↔
    reservedField w = 0 ∧ opField w = opOf i ∧ ((opOf i).toNat ∈ argOps ∨ argField w = 0) := by
  simp only [OpcodeRow.selectedBy, rowOf, maskOf, beq_iff_eq]
  split_ifs with h
  · rw [and_argMask_eq_iff]
    simp [h]
  · have hw : w &&& 0xFFFFFFFF = w := BitVec.and_allOnes
    rw [hw, eq_setWidth_iff]
    simp [h, and_comm]

theorem decode_eq_ok_iff_rowOf (w : Word) (i : Instr) :
    decode w = .ok i ↔ argOf i = argField w ∧ (rowOf i).selectedBy w = true := by
  rw [decode_eq_ok_iff, rowOf_selectedBy_iff]
  constructor
  · rintro ⟨hr, ho, ha⟩
    refine ⟨ha.symm, hr, ho, ?_⟩
    rw [ha]
    exact (opOf_defined_argOf_allowed i).2
  · rintro ⟨ha, hr, ho, -⟩
    exact ⟨hr, ho, ha.symm⟩

end Sys2Proof

/-! SUPPORT. A command word that does not decode ends with `IllegalCommand` and changes nothing else (30_encoding.md R67). -/

namespace Sys2Proof.Machine

theorem runCommand_of_error (w : Word) (s : State) (c : IllegalWord) (h : decode w = .error c) :
    runCommand w s = .next (s.withCode .illegalCommand) := by
  rw [runCommand, h]
  rfl

/-- Ending a command changes `STATUS.CODE` alone (60_exceptions.md R206). -/
theorem endsWith_withCode (k : StatusCode) (s : State) : endsWith k s.matched noReg [] s (s.withCode k) := by
  refine ⟨State.withCode_regWord_status s k, ?_, ?_, ?_⟩
  · intro r hr
    exact State.withCode_regWord s k r fun h => hr (.inl h)
  · exact (issuedExactly_withCode [] s s k).2 (issuedExactly_nil s)
  · exact (sameWorld_withCode s s k).2 (sameWorld_refl s)

/-! ### The obligations of the encoding family (30_encoding.md) -/

/-- Settles O3: decoder and row of the table test the same fields of the word, and no two rows share a mnemonic. -/
theorem opcodeTableSelectsTheDecodedCommand : Obligations.OpcodeTableSelectsTheDecodedCommand := by
  refine ⟨?_, by decide, by decide⟩
  intro w i
  rw [exists_row_iff i fun r => r.selectedBy w = true]
  exact decode_eq_ok_iff_rowOf w i

/-- Settles O4: an ill-formed word does not decode, and a word that does not decode only ends the command. -/
theorem illegalWordChangesOnlyTheCode : Obligations.IllegalWordChangesOnlyTheCode := by
  constructor
  · intro w s es hw he
    obtain ⟨c, hc⟩ := decode_error_of_not_wellFormed w hw
    have hstep : step s = .next ((s.withEvents es).withCode .illegalCommand) := by
      rw [step_cmd s w es he, runCommand_of_error w _ c hc]
    exact ⟨_, hstep, endsWith_withCode .illegalCommand (s.withEvents es)⟩
  · intro w hw
    exact (wordWellFormed_iff_decodes w).1 hw

end Sys2Proof.Machine

/-! SUPPORT. The CRC as a map on pairs: a step loses nothing of the pair or of the byte, so a sequence with one byte changed has another CRC
(40_crc.md R81, R84, R93, R94). -/

namespace Sys2Proof.Machine

/-! ### A step loses nothing (R81) -/

/-- A shift run backward: bit 15 tells whether the polynomial was added, for its bit 15 is set and a plain shift leaves that bit 0 (R85). -/
def crcUnshift (c : Crc16) : Crc16 := if c.getLsbD 15 then ((c ^^^ Config.crcPoly) <<< 1) ||| 1 else c <<< 1

/-- The place of a value in `TLO`: the eight shifts that make a table entry run backward need its high byte only (R83, R85). -/
def tloIndex (v : Byte) : Byte := (crcUnshift^[8] (v.setWidth 16 <<< 8)).setWidth 8

theorem tloIndex_tlo : ∀ i : Byte, tloIndex (tlo i) = i := by decide

theorem tlo_injective : Function.Injective tlo := Function.LeftInverse.injective tloIndex_tlo

theorem crcStep_injective_byte (c : Byte × Byte) : Function.Injective (crcStep c) := by
  intro b b' h
  have htlo : tlo (c.1 ^^^ b) = tlo (c.1 ^^^ b') := congrArg Prod.snd h
  exact (BitVec.xor_right_inj c.1).1 (tlo_injective htlo)

theorem crcStep_injective_pair (b : Byte) : Function.Injective (fun c => crcStep c b) := by
  rintro ⟨lo, hi⟩ ⟨lo', hi'⟩ h
  have htlo : tlo (lo ^^^ b) = tlo (lo' ^^^ b) := congrArg Prod.snd h
  have hthi : hi ^^^ thi (lo ^^^ b) = hi' ^^^ thi (lo' ^^^ b) := congrArg Prod.fst h
  obtain rfl : lo = lo' := (BitVec.xor_left_inj b).1 (tlo_injective htlo)
  obtain rfl : hi = hi' := (BitVec.xor_left_inj _).1 hthi
  rfl

theorem crcFrom_injective (x : List Byte) : Function.Injective (fun c => crcFrom c x) := by
  induction x with
  | nil => exact Function.injective_id
  | cons b x ih => exact ih.comp (crcStep_injective_pair b)

/-- A sequence with one byte replaced by another has another CRC, from any pair. -/
theorem crcFrom_modify_ne (g : Byte → Byte) (hg : ∀ b, g b ≠ b) (x : List Byte) (c : Byte × Byte) (i : Nat)
    (hi : i < x.length) : crcFrom c (x.modify i g) ≠ crcFrom c x := by
  induction x generalizing c i with
  | nil => exact absurd hi (Nat.not_lt_zero i)
  | cons b x ih =>
    cases i with
    | zero =>
      have hstep : crcStep c (g b) ≠ crcStep c b := (crcStep_injective_byte c).ne (hg b)
      exact (crcFrom_injective x).ne hstep
    | succ i => exact ih (crcStep c b) i (Nat.lt_of_succ_lt_succ hi)

/-! ### The residue (R93) -/

/-- A step with the pair's own low byte brings the high byte down. -/
theorem crcStep_own_low_byte (lo hi : Byte) : crcStep (lo, hi) lo = (hi, 0) := by
  have hthi : thi 0 = 0 := by decide
  have htlo : tlo 0 = 0 := by decide
  have hself : lo ^^^ lo = 0 := BitVec.xor_self
  have hzero : hi ^^^ 0 = hi := BitVec.xor_zero
  rw [crcStep, hself, hthi, htlo, hzero]

theorem crcFrom_own_bytes (lo hi : Byte) : crcFrom (lo, hi) [lo, hi] = (0, 0) := by
  rw [crcFrom_cons, crcStep_own_low_byte, crcFrom_cons, crcStep_own_low_byte]
  rfl

/-- Two more bytes bring the CRC to 0 where they are the CRC so far, low byte first, and nowhere else. -/
theorem crc16_append_eq_zero_iff (m : List Byte) (lo hi : Byte) :
    crc16 (m ++ [lo, hi]) = (0, 0) ↔ crc16 m = (lo, hi) := by
  have hsplit : crc16 (m ++ [lo, hi]) = crcFrom (crc16 m) [lo, hi] := crcFrom_append _ m [lo, hi]
  rw [hsplit, ← crcFrom_own_bytes lo hi]
  exact (crcFrom_injective [lo, hi]).eq_iff

/-! ### One flipped bit (R94) -/

@[simp] theorem flipBit_length (x : List Byte) (k : Nat) : (flipBit x k).length = x.length := List.length_modify ..

theorem xor_bit_ne (b : Byte) (j : Nat) (hj : j < 8) : b ^^^ ((1 : Byte) <<< j) ≠ b := by
  have hbit : ∀ j < 8, (1 : Byte) <<< j ≠ 0 := by decide
  intro h
  exact hbit j hj ((BitVec.xor_right_inj b).1 (h.trans BitVec.xor_zero.symm))

theorem crc16_flipBit_ne (x : List Byte) (k : Nat) (hk : k < 8 * x.length) : crc16 (flipBit x k) ≠ crc16 x :=
  crcFrom_modify_ne _ (fun b => xor_bit_ne b (k % 8) (Nat.mod_lt k (by decide))) x _ (k / 8)
    (Nat.div_lt_of_lt_mul hk)

/-! ### A frame is a sequence with residue 0 (30_encoding.md R60, 41_codec.md R101, R103) -/

theorem frameEncode_eq_wireFrame (a f : Byte) (p F : List Byte) (h : frameEncode a f p = .ok F) : F = wireFrame a f p := by
  unfold frameEncode at h
  split at h
  · cases h
  · exact (Except.ok.inj h).symm

@[simp] theorem wireFrame_length (a f : Byte) (p : List Byte) : (wireFrame a f p).length = p.length + 4 := by
  simp [wireFrame]

theorem crc16_wireFrame (a f : Byte) (p : List Byte) : crc16 (wireFrame a f p) = (0, 0) :=
  (crc16_append_eq_zero_iff ([a, f] ++ p) _ _).2 rfl

/-- The bytes `decode` takes as message and as CRC are the whole sequence. -/
theorem take_append_last_two (raw : List Byte) (h : 2 ≤ raw.length) :
    raw.take (raw.length - 2) ++ [raw.getD (raw.length - 2) 0, raw.getD (raw.length - 1) 0] = raw := by
  have hlast : raw.length - 2 + 1 = raw.length - 1 := by omega
  rw [List.getD_eq_getElem raw 0 (by omega), List.getD_eq_getElem raw 0 (by omega)]
  have hdrop : raw.drop (raw.length - 2) = [raw[raw.length - 2], raw[raw.length - 1]] := by
    rw [List.drop_eq_getElem_cons (by omega)]
    simp only [hlast]
    rw [List.drop_eq_getElem_cons (by omega), List.drop_of_length_le (by omega)]
  rw [← hdrop, List.take_append_drop]

theorem frameDecode_badCrc (raw : List Byte) (ea ef : Byte) (hlen : 4 ≤ raw.length) (hcrc : crc16 raw ≠ (0, 0)) :
    frameDecode raw ea ef = .error .badCrc := by
  have hverify : ¬ verify (raw.take (raw.length - 2)) (raw.getD (raw.length - 2) 0) (raw.getD (raw.length - 1) 0) = true := by
    rw [verify_iff, ← crc16_append_eq_zero_iff, take_append_last_two raw (by omega)]
    exact hcrc
  rw [frameDecode, if_neg (Nat.not_lt.2 hlen), if_pos (by simpa using hverify)]

end Sys2Proof.Machine

/-! SUPPORT. What the commands of the CRC unit leave, for whichever bytes they are given (40_crc.md R87 to R92). -/

namespace Sys2Proof.Machine

/-- A command that ends by writing a CRC pair and `OK`. -/
theorem withCrc_endsWith (s : State) (c : Byte × Byte) :
    ((s.withCrc (packCrc c)).withCode .ok).regWord .crc = crcWord c ∧
    endsWith .ok s.matched (fun r => r = .crc) [] s ((s.withCrc (packCrc c)).withCode .ok) := by
  refine ⟨?_, State.withCode_regWord_status _ _, ?_, ?_, ?_⟩
  · rw [State.withCode_regWord _ _ _ (by decide), State.withCrc_regWord_crc, packCrc_word]
  · intro r hr
    obtain ⟨hstatus, hcrc⟩ := not_or.1 hr
    rw [State.withCode_regWord _ _ _ hstatus, State.withCrc_regWord _ _ _ hcrc]
  · rw [issuedExactly_withCode, issuedExactly_withCrc]
    exact issuedExactly_nil s
  · rw [sameWorld_withCode, sameWorld_withCrc]
    exact sameWorld_refl s

/-- A command that ends by writing `MATCH` and a code. -/
theorem withMatch_endsWith (s : State) (m : Bool) (k : StatusCode) :
    endsWith k m noReg [] s ((s.withMatch m).withCode k) := by
  refine ⟨State.withCode_regWord_status _ _, ?_, ?_, ?_⟩
  · intro r hr
    obtain ⟨hstatus, -⟩ := not_or.1 hr
    rw [State.withCode_regWord _ _ _ hstatus, State.withMatch_regWord _ _ _ hstatus]
  · rw [issuedExactly_withCode, issuedExactly_withMatch]
    exact issuedExactly_nil s
  · rw [sameWorld_withCode, sameWorld_withMatch]
    exact sameWorld_refl s

theorem crcCommand_tooLong (bytes : List Byte) (s : State) (h : 256 < s.clen.toNat) :
    crcCommand bytes s = s.withCode .invalidArgument := if_pos ((clenTooLong_iff s).2 h)

theorem crcCommand_ok (bytes : List Byte) (s : State) (h : s.clen.toNat ≤ 256) :
    crcCommand bytes s = (s.withCrc (packCrc (crc16 bytes))).withCode .ok :=
  if_neg ((clenTooLong_iff s).not.2 (Nat.not_lt.2 h))

theorem verifyCommand_tooLong (bytes : List Byte) (s : State) (h : 256 < s.clen.toNat) :
    verifyCommand bytes s = (s.withMatch false).withCode .invalidArgument := if_pos ((clenTooLong_iff s).2 h)

theorem verifyCommand_ok (bytes : List Byte) (s : State) (h : s.clen.toNat ≤ 256) :
    verifyCommand bytes s = (s.withMatch (verify bytes (loByte s.exp) (hiByte s.exp))).withCode .ok :=
  if_neg ((clenTooLong_iff s).not.2 (Nat.not_lt.2 h))

theorem verify_eq_decide (x : List Byte) (lo hi : Byte) : verify x lo hi = decide (crc16 x = (lo, hi)) := by
  rw [Bool.eq_iff_iff, decide_eq_true_iff]
  exact verify_iff x lo hi

theorem crcCommand_endsWith_tooLong (bytes : List Byte) (s : State) (h : 256 < s.clen.toNat) :
    endsWith .invalidArgument s.matched noReg [] s (crcCommand bytes s) := by
  rw [crcCommand_tooLong bytes s h]
  exact endsWith_withCode .invalidArgument s

theorem crcCommand_endsWith_ok (bytes : List Byte) (s : State) (h : s.clen.toNat ≤ 256) :
    (crcCommand bytes s).regWord .crc = crcWord (crc16 bytes) ∧
    endsWith .ok s.matched (fun r => r = .crc) [] s (crcCommand bytes s) := by
  rw [crcCommand_ok bytes s h]
  exact withCrc_endsWith s (crc16 bytes)

theorem verifyCommand_endsWith_tooLong (bytes : List Byte) (s : State) (h : 256 < s.clen.toNat) :
    endsWith .invalidArgument false noReg [] s (verifyCommand bytes s) := by
  rw [verifyCommand_tooLong bytes s h]
  exact withMatch_endsWith s false .invalidArgument

theorem verifyCommand_endsWith_ok (bytes : List Byte) (s : State) (h : s.clen.toNat ≤ 256) :
    endsWith .ok (decide (crc16 bytes = (loByte s.exp, hiByte s.exp))) noReg [] s (verifyCommand bytes s) := by
  rw [verifyCommand_ok bytes s h, verify_eq_decide]
  exact withMatch_endsWith s _ .ok

/-! ### The obligations of the CRC family (40_crc.md) -/

/-- Settles O29: a frame has residue 0, a flip changes the CRC of any sequence, and a sequence with another residue is a `BadCrc`. -/
theorem singleBitFlipIsBadCrc : Obligations.SingleBitFlipIsBadCrc := by
  intro a f p F k hF hk
  obtain rfl := frameEncode_eq_wireFrame a f p F hF
  have hlen : 4 ≤ (flipBit (wireFrame a f p) k).length := by
    rw [flipBit_length, wireFrame_length]
    omega
  have hcrc : crc16 (flipBit (wireFrame a f p) k) ≠ (0, 0) := by
    rw [← crc16_wireFrame a f p]
    exact crc16_flipBit_ne _ k hk
  exact frameDecode_badCrc _ a f hlen hcrc

/-- Settles O32: both sides of `CLEN > 256`, on the bytes of `TXBUF`. -/
theorem crcTxComputesTheBufferCrc : Obligations.CrcTxComputesTheBufferCrc :=
  ⟨by decide, fun s h => ⟨_, rfl, crcCommand_endsWith_tooLong _ s h⟩,
    fun s h => ⟨_, rfl, crcCommand_endsWith_ok _ s h⟩, by decide⟩

/-- Settles O33: both sides of `CLEN > 256`, on the bytes of `RXBUF`. -/
theorem crcRxComputesTheBufferCrc : Obligations.CrcRxComputesTheBufferCrc :=
  ⟨by decide, fun s h => ⟨_, rfl, crcCommand_endsWith_tooLong _ s h⟩,
    fun s h => ⟨_, rfl, crcCommand_endsWith_ok _ s h⟩, by decide⟩

/-- Settles O34: both sides of `CLEN > 256`, on the bytes of `TXBUF`. -/
theorem vfyTxSetsMatch : Obligations.VfyTxSetsMatch :=
  ⟨by decide, fun s h => ⟨_, rfl, verifyCommand_endsWith_tooLong _ s h⟩,
    fun s h => ⟨_, rfl, verifyCommand_endsWith_ok _ s h⟩⟩

/-- Settles O35: both sides of `CLEN > 256`, on the bytes of `RXBUF`. -/
theorem vfyRxSetsMatch : Obligations.VfyRxSetsMatch :=
  ⟨by decide, fun s h => ⟨_, rfl, verifyCommand_endsWith_tooLong _ s h⟩,
    fun s h => ⟨_, rfl, verifyCommand_endsWith_ok _ s h⟩⟩

/-- Settles O25: the CRC is a fold of the step from the seed. -/
theorem crcIsTheStepFromTheSeed : Obligations.CrcIsTheStepFromTheSeed := by
  refine ⟨fun _ _ _ => rfl, rfl, ?_⟩
  intro s b
  exact crcFrom_append _ s [b]

/-- Settles O30: `CRC.INIT` writes the seed and `OK`. -/
theorem crcInitLoadsTheSeed : Obligations.CrcInitLoadsTheSeed := by
  refine ⟨by decide, fun s => ⟨_, rfl, ?_⟩⟩
  have hseed : crcWord (Config.crcSeedByte, Config.crcSeedByte) = 0x0000FFFF := by decide
  rw [← hseed]
  exact withCrc_endsWith s (Config.crcSeedByte, Config.crcSeedByte)

end Sys2Proof.Machine

/-! SUPPORT. The frame codec: its two functions case by case, and what `ENC` and `DEC` leave (41_codec.md R101 to R104). -/

namespace Sys2Proof.Machine

/-! ### `encode` and `decode` (R101, R103) -/

/-- The argument check of `encode` (R101). -/
theorem encodeRefused_iff (f : Byte) (p : List Byte) :
    (functionRefused f || decide (Config.maxPayload < p.length)) = true ↔
      f.toNat = 0 ∨ 127 < f.toNat ∨ 252 < p.length := by
  simp [functionRefused, Config.funcMax, Config.maxPayload, or_assoc]

theorem frameEncode_refused (a f : Byte) (p : List Byte) (h : f.toNat = 0 ∨ 127 < f.toNat ∨ 252 < p.length) :
    frameEncode a f p = .error .invalidArgument := if_pos ((encodeRefused_iff f p).2 h)

theorem frameEncode_ok (a f : Byte) (p : List Byte) (h1 : 1 ≤ f.toNat) (h127 : f.toNat ≤ 127) (hp : p.length ≤ 252) :
    frameEncode a f p = .ok (wireFrame a f p) := if_neg ((encodeRefused_iff f p).not.2 (by omega))

theorem frameDecode_short (raw : List Byte) (ea ef : Byte) (h : raw.length < 4) :
    frameDecode raw ea ef = .error .timeout := if_pos h

/-- `decode` of a sequence given as header, payload and CRC: the CRC is tested first, then the header (R103). -/
theorem frameDecode_parts (x y lo hi ea ef : Byte) (p : List Byte) :
    frameDecode ([x, y] ++ p ++ [lo, hi]) ea ef =
      if crc16 ([x, y] ++ p) = (lo, hi) then
        if x = ea ∧ y = ef then .ok p.length else .error .protocolError
      else .error .badCrc := by
  have hlen : ([x, y] ++ p ++ [lo, hi]).length = p.length + 4 := by simp
  by_cases hcrc : crc16 ([x, y] ++ p) = (lo, hi)
  · have htake : ([x, y] ++ p ++ [lo, hi]).take (p.length + 4 - 2) = [x, y] ++ p := List.take_left' (by simp)
    have hlo : ([x, y] ++ p ++ [lo, hi]).getD (p.length + 4 - 2) 0 = lo := by simp
    have hhi : ([x, y] ++ p ++ [lo, hi]).getD (p.length + 4 - 1) 0 = hi := by simp
    have hverify : verify ([x, y] ++ p) lo hi = true := (verify_iff _ lo hi).2 hcrc
    rw [if_pos hcrc, frameDecode, hlen, htake, hlo, hhi, hverify, if_neg (by simp), if_neg (by simp)]
    by_cases hheader : x = ea ∧ y = ef
    · rw [if_pos hheader, if_neg (by simp [hheader])]
      rfl
    · rw [if_neg hheader, if_pos (by simpa [imp_iff_not_or] using hheader)]
  · rw [if_neg hcrc]
    exact frameDecode_badCrc _ ea ef (by omega) ((crc16_append_eq_zero_iff _ lo hi).not.2 hcrc)

/-! ### The last write of a command -/

/-- Ending a command adds `STATUS` to what its other writes have changed (60_exceptions.md R206). -/
theorem withCode_endsWith (k : StatusCode) (m : Bool) (changed : HostReg → Prop) (calls : List TpCall) (s t : State)
    (hmatch : t.matched = m) (hreads : readsAsBefore changed s t) (hcalls : issuedExactly calls s t)
    (hworld : sameWorld s t) : endsWith k m changed calls s (t.withCode k) := by
  refine ⟨status_of_matched t k m hmatch, ?_, hcalls, hworld⟩
  intro r hr
  obtain ⟨hstatus, hchanged⟩ := not_or.1 hr
  rw [State.withCode_regWord t k r hstatus, hreads r hchanged]

/-! ### `ENC` (R102) -/

theorem exec_enc_refused (s : State) (h : s.requestRefused = true) :
    exec .enc s = .next ((s.withTxlen 0).withCode .invalidArgument) := congrArg Host.Outcome.next (if_pos h)

theorem exec_enc_ok (s : State) (h : ¬ s.requestRefused = true) :
    exec .enc s = .next ((buildFrame s.addr s.func s.plen.toNat s).withCode .ok) :=
  congrArg Host.Outcome.next (if_neg h)

theorem withTxlen_endsWith (s : State) (v : Len9) (k : StatusCode) :
    endsWith k s.matched (fun r => r = .txlen) [] s ((s.withTxlen v).withCode k) :=
  withCode_endsWith k _ _ [] s _ rfl (State.withTxlen_regWord s v)
    ((issuedExactly_withTxlen [] s s v).2 (issuedExactly_nil s)) ((sameWorld_withTxlen s s v).2 (sameWorld_refl s))

theorem buildFrame_endsWith (a f : Byte) (len : Nat) (s : State) (k : StatusCode) :
    endsWith k s.matched (fun r => r = .txlen ∨ frameBytes len r) [] s ((buildFrame a f len s).withCode k) := by
  refine withCode_endsWith k _ _ [] s _ (buildFrame_matched a f len s) ?_ ?_ ?_
  · intro r hr
    obtain ⟨htxlen, hbytes⟩ := not_or.1 hr
    exact buildFrame_regWord a f len s r htxlen hbytes
  · exact ⟨buildFrame_tpCalls a f len s, buildFrame_tpReplies a f len s⟩
  · exact ⟨buildFrame_events a f len s, buildFrame_hostReads a f len s, buildFrame_epoch a f len s⟩

theorem buildFrame_regWord_txlen (a f : Byte) (len : Nat) (s : State) (h : len ≤ 252) :
    (buildFrame a f len s).regWord .txlen = lenWord (len + 4) := by
  rw [State.regWord, buildFrame_txlen, len9_word _ (by omega)]

/-! ### `DEC` (R104) -/

theorem exec_dec_tooLong (s : State) (h : 256 < s.rxlen.toNat) :
    exec .dec s = .next ((s.withRplen 0).withCode .invalidArgument) :=
  congrArg Host.Outcome.next (if_pos ((rxlenTooLong_iff s).2 h))

/-- Within the buffer, `DEC` ends as decoding in place does. -/
theorem exec_dec_fits (s : State) (h : s.rxlen.toNat ≤ 256) :
    exec .dec s = .next (complete (decodeRx s.rxlen.toNat s.addr s.func s).1 (decodeRx s.rxlen.toNat s.addr s.func s).2) :=
  congrArg Host.Outcome.next (if_neg ((rxlenTooLong_iff s).not.2 (Nat.not_lt.2 h)))

theorem exec_dec_error (s : State) (k : StatusCode) (h : s.rxlen.toNat ≤ 256)
    (hd : frameDecode (s.rxSlice 0 s.rxlen.toNat) s.addr s.func = .error k) :
    exec .dec s = .next ((s.withRplen 0).withCode k) := by
  rw [exec_dec_fits s h, decodeRx, hd]
  rfl

theorem exec_dec_ok (s : State) (len : Nat) (h : s.rxlen.toNat ≤ 256)
    (hd : frameDecode (s.rxSlice 0 s.rxlen.toNat) s.addr s.func = .ok len) :
    exec .dec s = .next ((s.withRplen (len8 len)).withCode .ok) := by
  rw [exec_dec_fits s h, decodeRx, hd]
  rfl

theorem withRplen_endsWith (s : State) (v : Byte) (k : StatusCode) :
    endsWith k s.matched (fun r => r = .rplen) [] s ((s.withRplen v).withCode k) :=
  withCode_endsWith k _ _ [] s _ rfl (State.withRplen_regWord s v)
    ((issuedExactly_withRplen [] s s v).2 (issuedExactly_nil s)) ((sameWorld_withRplen s s v).2 (sameWorld_refl s))

/-! ### The obligations of the codec family (41_codec.md) -/

/-- Settles O36: both sides of the argument check of `encode`. -/
theorem frameEncodeBuildsTheWireFrame : Obligations.FrameEncodeBuildsTheWireFrame := by
  intro a f p
  refine ⟨frameEncode_refused a f p, ?_⟩
  intro h1 h127 hp
  exact ⟨frameEncode_ok a f p h1 h127 hp, wireFrame_length a f p⟩

/-- Settles O37: the length test, then the two tests on a sequence given by its parts. -/
theorem frameDecodeTestsInOrder : Obligations.FrameDecodeTestsInOrder := by
  refine ⟨frameDecode_short, ?_⟩
  intro x y lo hi ea ef p
  rw [frameDecode_parts]
  refine ⟨fun hcrc => if_neg hcrc, ?_, ?_⟩
  · intro hcrc hheader
    rw [if_pos hcrc, if_neg (not_and_or.2 hheader)]
  · intro hcrc hx hy
    rw [if_pos hcrc, if_pos ⟨hx, hy⟩]

/-- Settles O38: both sides of the argument check; what a frame built in place is and leaves alone. -/
theorem encBuildsTheFrameInPlace : Obligations.EncBuildsTheFrameInPlace := by
  refine ⟨by decide, ?_, ?_⟩
  · intro s h
    exact ⟨_, exec_enc_refused s ((requestRefused_iff s).2 h), rfl, withTxlen_endsWith s 0 .invalidArgument⟩
  · intro s h1 h127 hp
    have haccepted : ¬ s.requestRefused = true := (requestRefused_iff s).not.2 (by omega)
    exact ⟨_, exec_enc_ok s haccepted, buildFrame_wire s.addr s.func s.plen.toNat s,
      buildFrame_regWord_txlen s.addr s.func s.plen.toNat s hp, buildFrame_endsWith s.addr s.func s.plen.toNat s .ok⟩

/-- Settles O39: `RXLEN` too long, an error of `decode`, and a payload, whose length fits `RPLEN`. -/
theorem decDecodesInPlace : Obligations.DecDecodesInPlace := by
  refine ⟨by decide, ?_, ?_, ?_⟩
  · intro s h
    exact ⟨_, exec_dec_tooLong s h, rfl, withRplen_endsWith s 0 .invalidArgument⟩
  · intro s k h hd
    exact ⟨_, exec_dec_error s k h hd, rfl, withRplen_endsWith s 0 k⟩
  · intro s len h hd
    obtain ⟨-, hlen⟩ := frameDecode_ok _ _ _ _ hd
    rw [State.rxSlice_length, Nat.sub_zero] at hlen
    exact ⟨_, exec_dec_ok s len h hd, hlen, len8_word len (by omega), withRplen_endsWith s (len8 len) .ok⟩

end Sys2Proof.Machine

/-! SUPPORT. The word of a command decodes to the command (30_encoding.md R65, R66). -/

namespace Sys2Proof

/-! ### The fields of a word put together from its bytes -/

@[simp] theorem opField_or (v w : Word) : opField (v ||| w) = opField v ||| opField w := BitVec.extractLsb'_or
@[simp] theorem argField_or (v w : Word) : argField (v ||| w) = argField v ||| argField w := BitVec.extractLsb'_or
@[simp] theorem reservedField_or (v w : Word) : reservedField (v ||| w) = reservedField v ||| reservedField w :=
  BitVec.extractLsb'_or

@[simp] theorem opField_shifted (b : Byte) : opField (b.setWidth 32 <<< 8) = 0 := by
  refine BitVec.eq_of_getLsbD_eq fun k hk => ?_
  simp [opField, hk]

@[simp] theorem argField_shifted (b : Byte) : argField (b.setWidth 32 <<< 8) = b := by
  refine BitVec.eq_of_getLsbD_eq fun k hk => ?_
  simp [argField, hk, show 8 + k < 32 by omega]

@[simp] theorem reservedField_shifted (b : Byte) : reservedField (b.setWidth 32 <<< 8) = 0 := by
  refine BitVec.eq_of_getLsbD_eq fun k hk => ?_
  have hb : b.getLsbD (16 + k - 8) = false := BitVec.getLsbD_of_ge b _ (by omega)
  simp [reservedField, hk, hb, show 16 + k < 32 by omega]

/-! ### The decoder undoes the encoder -/

theorem decode_encode (i : Instr) : decode (encode i) = .ok i := by
  rw [decode_eq_ok_iff, encode]
  simp

end Sys2Proof

/-! SUPPORT. What a session command has done before it writes its code, and the paths of the session unit put together from it (42_session.md R121,
R123 to R126). -/

namespace Sys2Proof.Machine

/-! ### A command before the write of its code -/

/-- A command that came from `s` to `t` and has not yet written its code: `MATCH` is kept, at most the registers and buffer bytes named are
changed, exactly these transactions are issued, and the outside world is left alone. -/
structure Progress (changed : HostReg → Prop) (calls : List TpCall) (s t : State) : Prop where
  matched : t.matched = s.matched
  reads : readsAsBefore changed s t
  issued : issuedExactly calls s t
  world : sameWorld s t

theorem noReg_iff (r : HostReg) : noReg r ↔ False := Iff.rfl

theorem Progress.refl (s : State) : Progress noReg [] s s := ⟨rfl, fun _ _ => rfl, issuedExactly_nil s, sameWorld_refl s⟩

section
variable {changed wider : HostReg → Prop} {calls : List TpCall} {s t : State}

theorem Progress.mono (h : Progress changed calls s t) (hw : ∀ r, changed r → wider r) : Progress wider calls s t :=
  ⟨h.matched, fun r hr => h.reads r (mt (hw r) hr), h.issued, h.world⟩

theorem Progress.issue (h : Progress changed calls s t) (c : TpCall) : Progress changed (calls ++ [c]) s (t.issue c) :=
  ⟨h.matched, fun r hr => (State.issue_regWord t c r).trans (h.reads r hr), issuedExactly_issue calls s t c h.issued,
    (sameWorld_issue s t c).2 h.world⟩

theorem Progress.withSession (h : Progress changed calls s t) (c p : Bool) (d f : Byte) :
    Progress (fun r => r = .session ∨ changed r) calls s (t.withSession c p d f) := by
  refine ⟨h.matched, ?_, (issuedExactly_withSession calls s t c p d f).2 h.issued, (sameWorld_withSession s t c p d f).2 h.world⟩
  intro r hr
  obtain ⟨hsession, hchanged⟩ := not_or.1 hr
  rw [State.withSession_regWord t c p d f r hsession, h.reads r hchanged]

theorem Progress.readFailed (h : Progress changed calls s t) :
    Progress (fun r => r = .rxlen ∨ r = .rplen ∨ changed r) (calls ++ [.tpRead 256]) s t.readFailed := by
  refine ⟨h.matched, ?_, State.readFailed_issued calls s t h.issued, (State.readFailed_world s t).2 h.world⟩
  intro r hr
  obtain ⟨hrxlen, hrplen, hchanged⟩ := by simpa only [not_or] using hr
  rw [State.readFailed_regWord t r hrxlen hrplen, h.reads r hchanged]

theorem Progress.replyRead (h : Progress changed calls s t) (bs : List Byte) (n : Byte) :
    Progress (fun r => r = .rxlen ∨ r = .rplen ∨ rxIndex (fun i => i < bs.length) r ∨ changed r) (calls ++ [.tpRead 256]) s
      (t.replyRead bs n) := by
  refine ⟨h.matched, ?_, State.replyRead_issued calls s t bs n h.issued, (State.replyRead_world s t bs n).2 h.world⟩
  intro r hr
  obtain ⟨hrxlen, hrplen, hbytes, hchanged⟩ := by simpa only [not_or] using hr
  rw [State.replyRead_regWord t bs n r hrxlen hrplen hbytes, h.reads r hchanged]

/-- The write of the code ends the command (60_exceptions.md R206). -/
theorem Progress.endsWith_code (h : Progress changed calls s t) (k : StatusCode) :
    endsWith k s.matched changed calls s (t.withCode k) :=
  withCode_endsWith k s.matched changed calls s t h.matched h.reads h.issued h.world

/-- `fail(K)` of R123 closes the transport and clears the session, besides what had been done. -/
theorem Progress.endsWith_connectFail (h : Progress changed calls s t) (k : StatusCode) :
    endsWith k s.matched (fun r => r = .session ∨ changed r) (calls ++ [.tpClose]) s (connectFail k t) :=
  ((h.issue .tpClose).withSession false false 0 0).endsWith_code k

end

/-- `SEND` up to its write: `TXLEN` and the frame bytes (R124). -/
theorem requestSent_progress (s : State) :
    Progress (fun r => r = .txlen ∨ frameBytes s.plen.toNat r)
      [.tpWrite (wireFrame s.devaddr s.func (s.txSlice 2 (2 + s.plen.toNat)))] s s.requestSent := by
  refine ⟨s.requestSent_matched, ?_, s.requestSent_issued, s.requestSent_world⟩
  intro r hr
  obtain ⟨htxlen, hbytes⟩ := not_or.1 hr
  exact s.requestSent_regWord r htxlen hbytes

/-- `CONNECT a` up to its write: `TXLEN` and the frame bytes (R123). -/
theorem identificationSent_progress (s : State) (a : Byte) :
    Progress (fun r => r = .txlen ∨ frameBytes 0 r) [.tpOpen, .tpWrite (wireFrame a 0x11 [])] s (s.identificationSent a) := by
  refine ⟨s.identificationSent_matched a, ?_, s.identificationSent_issued a, s.identificationSent_world a⟩
  intro r hr
  obtain ⟨htxlen, hbytes⟩ := not_or.1 hr
  exact s.identificationSent_regWord a r htxlen hbytes

/-! ### The registers a session command leaves -/

/-- The last two writes of a session command show in `SESSION` and `STATUS` alone. -/
theorem withSession_withCode_regWord {s : State} {c p : Bool} {d f : Byte} {k : StatusCode} {r : HostReg}
    (hsession : r ≠ .session) (hstatus : r ≠ .status) : ((s.withSession c p d f).withCode k).regWord r = s.regWord r := by
  rw [State.withCode_regWord _ k r hstatus, State.withSession_regWord s c p d f r hsession]

theorem connectFail_regWord {k : StatusCode} {s : State} {r : HostReg} (hsession : r ≠ .session) (hstatus : r ≠ .status) :
    (connectFail k s).regWord r = s.regWord r := by
  rw [connectFail_eq, withSession_withCode_regWord hsession hstatus, State.issue_regWord]

@[simp] theorem connectFail_txSlice (k : StatusCode) (s : State) (x y : Nat) : (connectFail k s).txSlice x y = s.txSlice x y := rfl

@[simp] theorem connectFail_rxSlice (k : StatusCode) (s : State) (x y : Nat) : (connectFail k s).rxSlice x y = s.rxSlice x y := rfl

@[simp] theorem State.readFailed_txSlice (s : State) (x y : Nat) : s.readFailed.txSlice x y = s.txSlice x y := rfl

@[simp] theorem State.replyRead_txSlice (s : State) (bs : List Byte) (n : Byte) (x y : Nat) :
    (s.replyRead bs n).txSlice x y = s.txSlice x y := rfl

theorem connectFail_regWord_session (k : StatusCode) (s : State) : (connectFail k s).regWord .session = sessionDisconnected :=
  session_disconnected (s.issue .tpClose) k

theorem State.requestSent_regWord_txlen (s : State) (h : s.plen.toNat ≤ 252) :
    s.requestSent.regWord .txlen = lenWord (s.plen.toNat + 4) := by
  rw [State.regWord, State.requestSent_txlen, len9_word _ (by omega)]

theorem State.identificationSent_regWord_txlen (s : State) (a : Byte) : (s.identificationSent a).regWord .txlen = 4 := by
  rw [State.regWord, State.identificationSent_txlen]
  rfl

theorem State.readFailed_regWord_rxlen (s : State) : s.readFailed.regWord .rxlen = 0 := rfl

theorem State.readFailed_regWord_rplen (s : State) : s.readFailed.regWord .rplen = 0 := rfl

/-- A payload `decode` found in a reply has a length that `RPLEN` holds. -/
theorem State.replyRead_regWord_rplen_payload (s : State) (bs : List Byte) (ea ef : Byte) (len : Nat) (h : bs.length ≤ 256)
    (hd : frameDecode bs ea ef = .ok len) : (s.replyRead bs (len8 len)).regWord .rplen = lenWord len := by
  obtain ⟨-, hlen⟩ := frameDecode_ok bs ea ef len hd
  rw [State.replyRead_regWord_rplen, len8_word len (by omega)]

theorem State.replyRead_regWord_txlen (s : State) (bs : List Byte) (n : Byte) :
    (s.replyRead bs n).regWord .txlen = s.regWord .txlen := rfl

/-! ### What the paths past the write of `CONNECT` share -/

section
variable (a : Byte) (s : State)

/-- Once the read has failed. -/
theorem identification_readFailed_progress :
    Progress (fun r => r = .txlen ∨ r = .rxlen ∨ r = .rplen ∨ frameBytes 0 r)
      [.tpOpen, .tpWrite (wireFrame a 0x11 []), .tpRead 256] s (s.identificationSent a).readFailed :=
  (identificationSent_progress s a).readFailed.mono fun _ hr => by tauto

/-- Once a reply has been read. -/
theorem identification_replyRead_progress (bs : List Byte) (n : Byte) :
    Progress (fun r => r = .txlen ∨ r = .rxlen ∨ r = .rplen ∨ frameBytes 0 r ∨ rxIndex (fun i => i < bs.length) r)
      [.tpOpen, .tpWrite (wireFrame a 0x11 []), .tpRead 256] s ((s.identificationSent a).replyRead bs n) :=
  ((identificationSent_progress s a).replyRead bs n).mono fun _ hr => by tauto

/-- The request stays in `TXBUF` when the reply goes to `RXBUF`. -/
theorem identification_replyRead_values (bs : List Byte) (n : Byte) (h : bs.length ≤ 256) :
    ((s.identificationSent a).replyRead bs n).txSlice 0 4 = wireFrame a 0x11 [] ∧
    ((s.identificationSent a).replyRead bs n).regWord .txlen = 4 ∧
    ((s.identificationSent a).replyRead bs n).rxSlice 0 bs.length = bs ∧
    ((s.identificationSent a).replyRead bs n).regWord .rxlen = lenWord bs.length := by
  refine ⟨?_, ?_, State.replyRead_rxSlice _ bs n, State.replyRead_regWord_rxlen _ bs n h⟩
  · rw [State.replyRead_txSlice, State.identificationSent_txSlice]
  · rw [State.replyRead_regWord_txlen, State.identificationSent_regWord_txlen]

end

/-! ### What `DISCONNECT` has done once it has closed, and `RECV` once it has read -/

theorem closed_progress (s : State) :
    Progress (fun r => r = .session) [.tpClose] s ((s.issue .tpClose).withSession false false 0 0) :=
  (((Progress.refl s).issue .tpClose).withSession false false 0 0).mono fun _ hr => by
    simpa only [noReg_iff, or_false] using hr

theorem recv_readFailed_progress (s : State) :
    Progress (fun r => r = .rxlen ∨ r = .rplen) [.tpRead 256] s s.readFailed :=
  (Progress.refl s).readFailed.mono fun _ hr => by simpa only [noReg_iff, or_false] using hr

theorem recv_replyRead_progress (s : State) (bs : List Byte) (n : Byte) :
    Progress (fun r => r = .rxlen ∨ r = .rplen ∨ rxIndex (fun i => i < bs.length) r) [.tpRead 256] s (s.replyRead bs n) :=
  ((Progress.refl s).replyRead bs n).mono fun _ hr => by simpa only [noReg_iff, or_false] using hr

/-! ### The obligations of the session family: the commands path by path -/

theorem requestRefused_eq_false (s : State) (h1 : 1 ≤ s.func.toNat) (h127 : s.func.toNat ≤ 127) (hp : s.plen.toNat ≤ 252) :
    s.requestRefused = false :=
  Bool.eq_false_iff.2 ((requestRefused_iff s).not.2 (by omega))

theorem decode_connectWord (a : Byte) : decode ((a.setWidth 32 <<< 8) ||| 0xC0) = .ok (.connect a) :=
  decode_encode (.connect a)

/-- Settles O42: the six paths of `CONNECT`. -/
theorem connectFollowsItsRule : Obligations.ConnectFollowsItsRule := by
  refine ⟨decode_connectWord, ?_, ?_, ?_, ?_, ?_, ?_⟩
  · intro a s hc
    exact ⟨_, exec_connect_illegal a s hc, endsWith_withCode .illegalState s⟩
  · intro a s hc ho
    exact ⟨_, exec_connect_unopened a s hc ho, ((Progress.refl s).issue .tpOpen).endsWith_code .transportError⟩
  · intro a s hc ho hw
    refine ⟨_, exec_connect_unwritten a s hc ho hw, ?_, ?_, connectFail_regWord_session _ _,
      (identificationSent_progress s a).endsWith_connectFail .transportError⟩
    · rw [connectFail_txSlice, State.identificationSent_txSlice]
    · rw [connectFail_regWord (by decide) (by decide), State.identificationSent_regWord_txlen]
  · intro a s hc ho hw hr
    refine ⟨_, exec_connect_unread a s hc ho hw hr, ?_, ?_, ?_, ?_, connectFail_regWord_session _ _,
      (identification_readFailed_progress a s).endsWith_connectFail .transportError⟩
    · rw [connectFail_txSlice, State.readFailed_txSlice, State.identificationSent_txSlice]
    · rw [connectFail_regWord (by decide) (by decide), State.readFailed_regWord _ _ (by decide) (by decide),
        State.identificationSent_regWord_txlen]
    · rw [connectFail_regWord (by decide) (by decide), State.readFailed_regWord_rxlen]
    · rw [connectFail_regWord (by decide) (by decide), State.readFailed_regWord_rplen]
  · intro a s bs k hc ho hw hr hd
    obtain ⟨htx, htxlen, hrx, hrxlen⟩ := identification_replyRead_values a s bs 0 (Reply.received_le _ 256 bs hr)
    refine ⟨_, exec_connect_undecoded a s bs k hc ho hw hr hd, ?_, ?_, ?_, ?_, ?_, connectFail_regWord_session _ _,
      (identification_replyRead_progress a s bs 0).endsWith_connectFail k⟩
    · rw [connectFail_txSlice, htx]
    · rw [connectFail_regWord (by decide) (by decide), htxlen]
    · rw [connectFail_rxSlice, hrx]
    · rw [connectFail_regWord (by decide) (by decide), hrxlen]
    · rw [connectFail_regWord (by decide) (by decide), State.replyRead_regWord_rplen]
      rfl
  · intro a s bs len hc ho hw hr hd
    have hle : bs.length ≤ 256 := Reply.received_le _ 256 bs hr
    obtain ⟨htx, htxlen, hrx, hrxlen⟩ := identification_replyRead_values a s bs (len8 len) hle
    refine ⟨_, exec_connect_ok a s bs len hc ho hw hr hd, ?_, ?_, ?_, ?_, ?_, session_idle _ a .ok,
      ((identification_replyRead_progress a s bs (len8 len)).withSession true false a 0).endsWith_code .ok⟩
    · rw [State.withCode_txSlice, State.withSession_txSlice, htx]
    · rw [withSession_withCode_regWord (by decide) (by decide), htxlen]
    · rw [State.withCode_rxSlice, State.withSession_rxSlice, hrx]
    · rw [withSession_withCode_regWord (by decide) (by decide), hrxlen]
    · rw [withSession_withCode_regWord (by decide) (by decide),
        State.replyRead_regWord_rplen_payload _ bs a 0x11 len hle hd]

/-- Settles O43: the four paths of `SEND`; a request that is not refused is sent whole. -/
theorem sendFollowsItsRule : Obligations.SendFollowsItsRule := by
  refine ⟨by decide, ?_, ?_, ?_, ?_⟩
  · intro s hi
    exact ⟨_, exec_send_illegal s hi, endsWith_withCode .illegalState s⟩
  · intro s hi hr
    exact ⟨_, exec_send_invalid s hi ((requestRefused_iff s).2 hr), rfl, withTxlen_endsWith s 0 .invalidArgument⟩
  · intro s hi h1 h127 hp hw
    have hr : s.requestRefused = false := requestRefused_eq_false s h1 h127 hp
    exact ⟨_, exec_send_failed s hi hr hw, s.requestSent_txSlice, s.requestSent_regWord_txlen hp,
      (requestSent_progress s).endsWith_code .transportError⟩
  · intro s hi h1 h127 hp hw
    have hr : s.requestRefused = false := requestRefused_eq_false s h1 h127 hp
    exact ⟨_, exec_send_ok s hi hr hw, s.requestSent_txSlice, s.requestSent_regWord_txlen hp, session_awaiting _ _ _ _,
      ((requestSent_progress s).withSession true true s.devaddr s.func).endsWith_code .ok⟩

/-- Settles O44: the four paths of `RECV`. -/
theorem recvFollowsItsRule : Obligations.RecvFollowsItsRule := by
  refine ⟨by decide, ?_, ?_, ?_, ?_⟩
  · intro s hp
    exact ⟨_, exec_recv_illegal s hp, endsWith_withCode .illegalState s⟩
  · intro s hp hr
    exact ⟨_, exec_recv_failed s hp hr, s.readFailed_regWord_rxlen, s.readFailed_regWord_rplen, session_answered _ _ _ _,
      ((recv_readFailed_progress s).withSession s.connected false s.devaddr 0).endsWith_code .transportError⟩
  · intro s bs k hp hr hd
    exact ⟨_, exec_recv_error s bs k hp hr hd, s.replyRead_rxSlice bs 0,
      s.replyRead_regWord_rxlen bs 0 (Reply.received_le _ 256 bs hr), s.replyRead_regWord_rplen bs 0, session_answered _ _ _ _,
      ((recv_replyRead_progress s bs 0).withSession s.connected false s.devaddr 0).endsWith_code k⟩
  · intro s bs len hp hr hd
    have hle : bs.length ≤ 256 := Reply.received_le _ 256 bs hr
    exact ⟨_, exec_recv_ok s bs len hp hr hd, s.replyRead_rxSlice bs (len8 len), s.replyRead_regWord_rxlen bs (len8 len) hle,
      s.replyRead_regWord_rplen_payload bs s.devaddr s.pendfunc len hle hd, session_answered _ _ _ _,
      ((recv_replyRead_progress s bs (len8 len)).withSession s.connected false s.devaddr 0).endsWith_code .ok⟩

/-- Settles O45: both paths of `DISCONNECT`. -/
theorem disconnectFollowsItsRule : Obligations.DisconnectFollowsItsRule := by
  refine ⟨by decide, ?_, ?_⟩
  · intro s hc
    exact ⟨_, exec_disconnect_closed s hc, endsWith_withCode .ok s⟩
  · intro s hc
    exact ⟨_, exec_disconnect_open s hc, session_disconnected _ _, (closed_progress s).endsWith_code _⟩

end Sys2Proof.Machine

/-! SUPPORT. Which step makes a reply outstanding (42_session.md R121). -/

namespace Sys2Proof.Machine

/-! ### What leaves the session alone, or no reply outstanding -/

@[simp] theorem State.writeReg_pending (s : State) (v : Word) (r : HostReg) : (s.writeReg v r).pending = s.pending := by
  cases r <;> rfl

@[simp] theorem hostWrite_pending (n : RegNum) (v : Word) (s : State) : (hostWrite n v s).pending = s.pending :=
  s.writeReg_pending v (hostReg n)

@[simp] theorem abandon_pending (calls : Nat) (s t : State) : (abandon calls s t).pending = false := rfl

@[simp] theorem connectFail_pending (k : StatusCode) (s : State) : (connectFail k s).pending = false := rfl

theorem crcCommand_pending (bytes : List Byte) (s : State) : (crcCommand bytes s).pending = s.pending := by
  unfold crcCommand
  split <;> rfl

theorem verifyCommand_pending (bytes : List Byte) (s : State) : (verifyCommand bytes s).pending = s.pending := by
  unfold verifyCommand
  split <;> rfl

theorem exec_enc_pending (s t : State) (h : exec .enc s = .next t) : t.pending = s.pending := by
  obtain ⟨-, rfl⟩ | ⟨-, rfl⟩ := exec_enc_cases s t h
  · rfl
  · exact buildFrame_pending s.addr s.func s.plen.toNat s

theorem exec_dec_pending (s t : State) (h : exec .dec s = .next t) : t.pending = s.pending := by
  obtain ⟨-, rfl⟩ | ⟨k, -, -, rfl⟩ | ⟨len, -, -, rfl⟩ := exec_dec_cases s t h <;> rfl

/-- The commands of the CRC unit and the codec write no session (R128). -/
theorem exec_pending_of_not_session (i : Instr) (s t : State) (hi : isSessionCommand i = false) (h : exec i s = .next t) :
    t.pending = s.pending := by
  cases i with
  | crcInit => cases h; rfl
  | crcByte b => cases h; rfl
  | crcTx => cases h; exact crcCommand_pending _ s
  | crcRx => cases h; exact crcCommand_pending _ s
  | vfyTx => cases h; exact verifyCommand_pending _ s
  | vfyRx => cases h; exact verifyCommand_pending _ s
  | enc => exact exec_enc_pending s t h
  | dec => exact exec_dec_pending s t h
  | connect a => cases hi
  | send => cases hi
  | recv => cases hi
  | disconnect => cases hi

theorem exec_connect_pending (a : Byte) (s t : State) (hp : s.pending = false) (h : exec (.connect a) s = .next t) :
    t.pending = false := by
  obtain ⟨-, rfl⟩ | ⟨-, -, rfl⟩ | ⟨-, -, -, rfl⟩ | ⟨-, -, -, -, rfl⟩ | ⟨bs, k, -, -, -, -, -, rfl⟩ | ⟨bs, len, -, -, -, -, -, rfl⟩ :=
    exec_connect_cases a s t h
  · exact hp
  · exact hp
  · rfl
  · rfl
  · rfl
  · rfl

theorem exec_recv_pending (s t : State) (h : exec .recv s = .next t) : t.pending = false := by
  obtain ⟨hp, rfl⟩ | ⟨-, -, rfl⟩ | ⟨bs, k, -, -, -, rfl⟩ | ⟨bs, len, -, -, -, rfl⟩ := exec_recv_cases s t h
  · exact hp
  · rfl
  · rfl
  · rfl

theorem exec_disconnect_pending (s t : State) (hp : s.pending = false) (h : exec .disconnect s = .next t) : t.pending = false := by
  obtain ⟨-, rfl⟩ | ⟨-, rfl⟩ := exec_disconnect_cases s t h
  · exact hp
  · rfl

/-! ### The one way to a reply outstanding -/

/-- Of the paths of `SEND`, only the whole write from Idle makes a reply outstanding (R124). -/
theorem exec_send_awaits (s t : State) (hp : s.pending = false) (hp' : t.pending = true) (h : exec .send s = .next t) :
    s.isIdle ∧ t.code = .ok ∧ t.pendfunc = s.func := by
  obtain ⟨-, rfl⟩ | ⟨-, -, rfl⟩ | ⟨-, -, -, rfl⟩ | ⟨hidle, -, -, rfl⟩ := exec_send_cases s t h
  · simp [hp] at hp'
  · simp [hp] at hp'
  · simp [s.requestSent_session, hp] at hp'
  · exact ⟨hidle, rfl, rfl⟩

/-- Only `SEND` makes a reply outstanding. -/
theorem exec_awaits (i : Instr) (s t : State) (hp : s.pending = false) (hp' : t.pending = true) (h : exec i s = .next t) :
    i = .send := by
  cases hi : isSessionCommand i with
  | false => simp [exec_pending_of_not_session i s t hi h, hp] at hp'
  | true =>
    cases i with
    | send => rfl
    | connect a => simp [exec_connect_pending a s t hp h] at hp'
    | recv => simp [exec_recv_pending s t h] at hp'
    | disconnect => simp [exec_disconnect_pending s t hp h] at hp'
    | _ => cases hi

/-- Of the events, only a write to `CMD` whose word is a command makes a reply outstanding. -/
theorem step_awaits (s t : State) (hp : s.pending = false) (hp' : t.pending = true) (h : step s = .next t) :
    ∃ w es i, s.events = .write 0x000 w :: es ∧ decode w = .ok i ∧ exec i (s.withEvents es) = .next t := by
  obtain ⟨-, rfl⟩ | ⟨n, es, -, rfl⟩ | ⟨n, v, es, -, -, rfl⟩ | hcmd | ⟨w, es, c, -, -, rfl⟩ | ⟨es, -, rfl⟩ |
    ⟨w, calls, es, whole, -, -, rfl⟩ := step_cases s t h
  · simp [hp] at hp'
  · simp [hp] at hp'
  · simp [hp] at hp'
  · exact hcmd
  · simp [hp] at hp'
  · simp at hp'
  · simp at hp'

/-! ### The obligation -/

/-- Settles O47: by R24 (a) a reply is outstanding only in Awaiting; and of the events and commands only `SEND` makes one outstanding. -/
theorem oneRequestInFlight : Obligations.OneRequestInFlight := by
  refine ⟨?_, ?_, ?_⟩
  · intro s hinv hs
    have hp : s.pending = false := Bool.eq_false_iff.2 fun hp => hs ⟨hinv.pendingConnected hp, hp⟩
    exact ⟨_, exec_recv_illegal s hp, endsWith_withCode .illegalState s⟩
  · intro s _ hs
    exact ⟨_, exec_send_illegal s hs, endsWith_withCode .illegalState s⟩
  · intro s t h hp hp'
    obtain ⟨w, es, i, hev, hd, hx⟩ := step_awaits s t hp hp' h
    obtain rfl := exec_awaits i (s.withEvents es) t hp hp' hx
    exact ⟨0x000, w, es, hev, (hostReg_eq_cmd _).2 rfl, hd, exec_send_awaits (s.withEvents es) t hp hp' hx⟩

end Sys2Proof.Machine

/-! SUPPORT. The host window: which numbers name which registers (20_memory.md R41), what a host read returns and what a host write changes
(43_host_access.md R150 to R159). -/

namespace Sys2Proof.Machine

/-! ### Which numbers name which registers (R41) -/

/-- What place `i` of window `p` names: the map of R41 by its two fields. -/
def windowReg (p : BitVec 3) (i : Byte) : HostReg :=
  if p = 0 then controlReg i
  else if p = 1 then .txbuf i
  else if p = 2 then .rxbuf i
  else if p = 4 then .thi i
  else if p = 5 then .tlo i
  else .reserved

theorem hostReg_eq_windowReg (n : RegNum) : hostReg n = windowReg (n.extractLsb' 8 3) (n.extractLsb' 0 8) := rfl

/-- A window is 256 numbers. -/
theorem hostReg_of_window (n : RegNum) (p : BitVec 3) (i : Byte) (h : n.toNat = 256 * p.toNat + i.toNat) :
    hostReg n = windowReg p i := by
  have hi : i.toNat < 256 := i.isLt
  have hp : p.toNat < 8 := p.isLt
  have hpage : n.extractLsb' 8 3 = p := BitVec.eq_of_toNat_eq (by
    rw [BitVec.extractLsb'_toNat, Nat.shiftRight_eq_div_pow]
    omega)
  have hplace : n.extractLsb' 0 8 = i := BitVec.eq_of_toNat_eq (by
    rw [BitVec.extractLsb'_toNat, Nat.shiftRight_zero]
    omega)
  rw [hostReg_eq_windowReg, hpage, hplace]

/-- Every register number is a place in one of the eight windows. -/
theorem exists_window (n : RegNum) : ∃ (p : BitVec 3) (i : Byte), n.toNat = 256 * p.toNat + i.toNat := by
  refine ⟨BitVec.ofNat 3 (n.toNat / 256), BitVec.ofNat 8 n.toNat, ?_⟩
  have hn : n.toNat < 2048 := n.isLt
  simp only [BitVec.toNat_ofNat]
  omega

@[simp] theorem hostReg_txbuf (i : Byte) : hostReg (0x100 + i.setWidth 11) = .txbuf i :=
  hostReg_of_window _ 1 i (by simp; omega)

@[simp] theorem hostReg_rxbuf (i : Byte) : hostReg (0x200 + i.setWidth 11) = .rxbuf i :=
  hostReg_of_window _ 2 i (by simp; omega)

@[simp] theorem hostReg_thi (i : Byte) : hostReg (0x400 + i.setWidth 11) = .thi i :=
  hostReg_of_window _ 4 i (by simp; omega)

@[simp] theorem hostReg_tlo (i : Byte) : hostReg (0x500 + i.setWidth 11) = .tlo i :=
  hostReg_of_window _ 5 i (by simp; omega)

/-- The numbers of the fifth and sixth windows name the entries of the tables. -/
theorem hostReg_table (n : RegNum) (h : 0x400 ≤ n.toNat) (h' : n.toNat ≤ 0x5FF) :
    ∃ i, hostReg n = .thi i ∨ hostReg n = .tlo i := by
  obtain ⟨p, i, hpi⟩ := exists_window n
  have hwindow : p = 4 ∨ p = 5 := by bv_omega
  obtain rfl | rfl := hwindow
  · exact ⟨i, .inl (hostReg_of_window n 4 i hpi)⟩
  · exact ⟨i, .inr (hostReg_of_window n 5 i hpi)⟩

theorem controlReg_reserved : ∀ i : Byte, 12 ≤ i.toNat → controlReg i = .reserved := by decide

/-- Behind the twelve registers, and in the fourth and the last two windows, nothing is named. -/
theorem hostReg_reserved (n : RegNum)
    (h : (0x00C ≤ n.toNat ∧ n.toNat ≤ 0x0FF) ∨ (0x300 ≤ n.toNat ∧ n.toNat ≤ 0x3FF) ∨ 0x600 ≤ n.toNat) :
    hostReg n = .reserved := by
  obtain ⟨p, i, hpi⟩ := exists_window n
  rw [hostReg_of_window n p i hpi]
  have hwindow : (p = 0 ∧ 12 ≤ i.toNat) ∨ p = 3 ∨ p = 6 ∨ p = 7 := by bv_omega
  obtain ⟨rfl, hi⟩ | rfl | rfl | rfl := hwindow
  · exact controlReg_reserved i hi
  · rfl
  · rfl
  · rfl

/-! ### The values of the registers (R150, R154 to R156) -/

/-- A CRC register is its two halves. -/
theorem packCrc_halves (c : Crc16) : packCrc (loByte c, hiByte c) = c := by
  refine BitVec.eq_of_getLsbD_eq fun j hj => ?_
  by_cases h8 : j < 8
  · simp [packCrc, loByte, hiByte, hj, h8]
  · simp [packCrc, loByte, hiByte, hj, h8, show j - 8 < 8 by omega, show 8 + (j - 8) = j by omega]

theorem crcRegister_word (c : Crc16) : c.setWidth 32 = crcWord (loByte c, hiByte c) := by
  rw [← packCrc_word, packCrc_halves]

theorem lowByte_word (v : Word) : (v.setWidth 8 : Byte).setWidth 32 = byteWord (v.extractLsb' 0 8) :=
  congrArg byteWord (BitVec.eq_of_toNat_eq (by simp))

theorem nineBits_word (v : Word) : (v.setWidth 9 : Len9).setWidth 32 = lenWord (v.toNat % 512) := by
  refine BitVec.eq_of_toNat_eq ?_
  simp [lenWord]

theorem loByte_setWidth (v : Word) : loByte (v.setWidth 16) = v.extractLsb' 0 8 := by
  refine BitVec.eq_of_getLsbD_eq fun j hj => ?_
  simp [loByte, hj, show j < 16 by omega]

theorem hiByte_setWidth (v : Word) : hiByte (v.setWidth 16) = v.extractLsb' 8 8 := by
  refine BitVec.eq_of_getLsbD_eq fun j hj => ?_
  simp [hiByte, hj, show 8 + j < 16 by omega]

/-! ### A host access, register by register -/

@[simp] theorem hostRead_withEvents (n : RegNum) (s : State) (es : List Event) : hostRead n (s.withEvents es) = hostRead n s :=
  State.withEvents_regWord s es (hostReg n)

/-- A number that names `r` reads as `r`. -/
theorem hostRead_of_hostReg (s : State) (n : RegNum) (r : HostReg) (hr : hostReg n = r) : hostRead n s = s.regWord r :=
  congrArg s.regWord hr

/-- A host write to a register other than `CMD` is the write of that register. -/
theorem step_writeReg (s : State) (n : RegNum) (v : Word) (es : List Event) (r : HostReg) (he : s.events = .write n v :: es)
    (hr : hostReg n = r) (hcmd : r ≠ .cmd) : step s = .next ((s.withEvents es).writeReg v r) := by
  subst hr
  exact step_write s n v es he ((hostReg_eq_cmd n).not.1 hcmd)

theorem writeReg_issued (s : State) (v : Word) (r : HostReg) : issuedExactly [] s (s.writeReg v r) := by
  cases r <;> exact ⟨rfl, rfl⟩

theorem writeReg_world (s : State) (v : Word) (r : HostReg) : sameWorld s (s.writeReg v r) := by
  cases r <;> exact ⟨rfl, rfl, rfl⟩

theorem setTxByte_regWord_ne (s : State) (i : Byte) (b : Byte) (q : HostReg) (hq : q ≠ .txbuf i) :
    (s.setTxByte i.toNat b).regWord q = s.regWord q :=
  s.setTxByte_regWord i.toNat b q fun _ hj hij => hq (hj.trans (congrArg _ (BitVec.eq_of_toNat_eq hij.symm)))

theorem setRxByte_regWord_ne (s : State) (i : Byte) (b : Byte) (q : HostReg) (hq : q ≠ .rxbuf i) :
    (s.setRxByte i.toNat b).regWord q = s.regWord q :=
  s.setRxByte_regWord i.toNat b q fun _ hj hij => hq (hj.trans (congrArg _ (BitVec.eq_of_toNat_eq hij.symm)))

/-- The write of a register other than a byte of `TXBUF` changes at most that register (R153 to R156, R159). -/
theorem writeReg_regWord (s : State) (v : Word) (r q : HostReg) (hr : ∀ i, r ≠ .txbuf i) (hq : q ≠ r) :
    (s.writeReg v r).regWord q = s.regWord q := by
  cases r with
  | addr => exact s.withAddr_regWord _ q hq
  | func => exact s.withFunc_regWord _ q hq
  | plen => exact s.withPlen_regWord _ q hq
  | rxlen => exact s.withRxlen_regWord _ q hq
  | clen => exact s.withClen_regWord _ q hq
  | crc => exact s.withCrc_regWord _ q hq
  | exp => exact s.withExp_regWord _ q hq
  | rxbuf i => exact setRxByte_regWord_ne s i _ q hq
  | txbuf i => exact absurd rfl (hr i)
  | _ => rfl

theorem writeReg_writesOnly (s : State) (v : Word) (r : HostReg) (hr : ∀ i, r ≠ .txbuf i) :
    writesOnly (fun q => q = r) s (s.writeReg v r) :=
  ⟨fun q hq => writeReg_regWord s v r q hr hq, writeReg_issued s v r, writeReg_world s v r⟩

/-- The write of a byte of `TXBUF` changes at most that byte and `TXLEN` (R158). -/
theorem writeReg_txbuf_writesOnly (s : State) (v : Word) (i : Byte) :
    writesOnly (fun q => q = .txbuf i ∨ q = .txlen) s (s.writeReg v (.txbuf i)) := by
  refine ⟨?_, writeReg_issued s v _, writeReg_world s v _⟩
  intro q hq
  obtain ⟨hbyte, htxlen⟩ := not_or.1 hq
  rw [State.writeReg, State.withTxlen_regWord _ _ _ htxlen, setTxByte_regWord_ne s i _ q hbyte]

theorem writeReg_txbuf_value (s : State) (v : Word) (i : Byte) :
    (s.writeReg v (.txbuf i)).regWord (.txbuf i) = byteWord (v.extractLsb' 0 8) := by
  simp [State.writeReg, State.regWord, lowByte_word]

theorem writeReg_rxbuf_value (s : State) (v : Word) (i : Byte) :
    (s.writeReg v (.rxbuf i)).regWord (.rxbuf i) = byteWord (v.extractLsb' 0 8) := by
  simp [State.writeReg, State.regWord, lowByte_word]

/-! ### The commands that meet what the host wrote -/

theorem runCommand_of_ok (w : Word) (s : State) (i : Instr) (h : decode w = .ok i) : runCommand w s = exec i s := by
  rw [runCommand, h]

theorem crcCommand_tooLong_code (bytes : List Byte) (s : State) (h : 256 < s.clen.toNat) :
    (crcCommand bytes s).code = .invalidArgument := congrArg State.code (crcCommand_tooLong bytes s h)

theorem verifyCommand_tooLong_code (bytes : List Byte) (s : State) (h : 256 < s.clen.toNat) :
    (verifyCommand bytes s).code = .invalidArgument := congrArg State.code (verifyCommand_tooLong bytes s h)

/-! ### The obligations of the host access family (43_host_access.md) -/

/-- Settles O8: a read only records the value of the register its number names. -/
theorem hostReadReturnsTheRegister : Obligations.HostReadReturnsTheRegister := by
  refine ⟨?_, ?_, ?_, ?_⟩
  · intro s n es he
    rw [step_read s n es he, runRead, hostRead_withEvents, State.withEvents_hostReads]
  · intro s
    exact ⟨rfl, rfl, rfl, rfl, rfl, rfl, rfl, rfl, rfl, rfl, crcRegister_word s.crc, crcRegister_word s.exp⟩
  · intro s i
    exact ⟨hostRead_of_hostReg s _ _ (hostReg_txbuf i), hostRead_of_hostReg s _ _ (hostReg_rxbuf i),
      hostRead_of_hostReg s _ _ (hostReg_thi i), hostRead_of_hostReg s _ _ (hostReg_tlo i)⟩
  · intro s n hn
    exact hostRead_of_hostReg s n .reserved (hostReg_reserved n hn)

/-- Settles O9: a write of a byte register keeps bits 7:0; the check is in `ENC` and `SEND`. -/
theorem byteRegistersTakeTheLowByte : Obligations.ByteRegistersTakeTheLowByte := by
  intro s v es
  refine ⟨?_, ?_, ?_, ?_⟩
  · intro he
    exact ⟨_, step_writeReg s _ v es .addr he rfl nofun, lowByte_word v, writeReg_writesOnly _ v .addr nofun⟩
  · intro he
    exact ⟨_, step_writeReg s _ v es .func he rfl nofun, lowByte_word v, writeReg_writesOnly _ v .func nofun⟩
  · intro he
    exact ⟨_, step_writeReg s _ v es .plen he rfl nofun, lowByte_word v, writeReg_writesOnly _ v .plen nofun⟩
  · intro h
    have hr : s.requestRefused = true := (requestRefused_iff s).2 h
    exact ⟨⟨_, exec_enc_refused s hr, rfl⟩, fun hidle => ⟨_, exec_send_invalid s hidle hr, rfl⟩⟩

/-- Settles O10: a write of a length register keeps bits 8:0; the check is in the commands that use the length. -/
theorem lengthRegistersTakeNineBits : Obligations.LengthRegistersTakeNineBits := by
  intro s v es
  refine ⟨?_, ?_, ?_, ?_⟩
  · intro he
    exact ⟨_, step_writeReg s _ v es .rxlen he rfl nofun, nineBits_word v, writeReg_writesOnly _ v .rxlen nofun⟩
  · intro he
    exact ⟨_, step_writeReg s _ v es .clen he rfl nofun, nineBits_word v, writeReg_writesOnly _ v .clen nofun⟩
  · intro h i hi
    obtain rfl | rfl | rfl | rfl : i = .crcTx ∨ i = .crcRx ∨ i = .vfyTx ∨ i = .vfyRx := by simpa using hi
    · exact ⟨_, rfl, crcCommand_tooLong_code _ s h⟩
    · exact ⟨_, rfl, crcCommand_tooLong_code _ s h⟩
    · exact ⟨_, rfl, verifyCommand_tooLong_code _ s h⟩
    · exact ⟨_, rfl, verifyCommand_tooLong_code _ s h⟩
  · intro h
    exact ⟨_, exec_dec_tooLong s h, rfl⟩

/-- Settles O11: a write of a CRC register keeps bits 15:0, whose halves are `LO` and `HI`. -/
theorem crcRegistersTakeSixteenBits : Obligations.CrcRegistersTakeSixteenBits := by
  intro s v es
  constructor
  · intro he
    exact ⟨_, step_writeReg s _ v es .crc he rfl nofun, loByte_setWidth v, hiByte_setWidth v,
      writeReg_writesOnly _ v .crc nofun⟩
  · intro he
    exact ⟨_, step_writeReg s _ v es .exp he rfl nofun, loByte_setWidth v, hiByte_setWidth v,
      writeReg_writesOnly _ v .exp nofun⟩

/-- Settles O12: each of the numbers names a register that a write leaves alone. -/
theorem readOnlyAndReservedWritesAreIgnored : Obligations.ReadOnlyAndReservedWritesAreIgnored := by
  intro s n v es he hn
  obtain rfl | rfl | rfl | rfl | ⟨hlow, hhigh⟩ | hreserved := hn
  · exact step_writeReg s _ v es .status he rfl nofun
  · exact step_writeReg s _ v es .session he rfl nofun
  · exact step_writeReg s _ v es .txlen he rfl nofun
  · exact step_writeReg s _ v es .rplen he rfl nofun
  · obtain ⟨i, hthi | htlo⟩ := hostReg_table n hlow hhigh
    · exact step_writeReg s n v es (.thi i) he hthi nofun
    · exact step_writeReg s n v es (.tlo i) he htlo nofun
  · exact step_writeReg s n v es .reserved he (hostReg_reserved n hreserved) nofun

/-- Settles O13: every number of the window names its byte of `TXBUF`, whose write clears `TXLEN`. -/
theorem txbufWriteClearsTxlen : Obligations.TxbufWriteClearsTxlen := by
  intro s i v es he
  exact ⟨_, step_writeReg s _ v es (.txbuf i) he (hostReg_txbuf i) nofun, writeReg_txbuf_value _ v i, rfl,
    writeReg_txbuf_writesOnly _ v i⟩

/-- Settles O14: every number of the window names its byte of `RXBUF`. -/
theorem rxbufWriteChangesOneByte : Obligations.RxbufWriteChangesOneByte := by
  intro s i v es he
  exact ⟨_, step_writeReg s _ v es (.rxbuf i) he (hostReg_rxbuf i) nofun, writeReg_rxbuf_value _ v i,
    writeReg_writesOnly _ v (.rxbuf i) nofun⟩

/-- Settles O6: a write to `CMD` is the command of its word, or `IllegalCommand` where the word has none. -/
theorem stepRunsTheDecodedCommand : Obligations.StepRunsTheDecodedCommand := by
  intro s w es he
  rw [step_cmd s w es he]
  exact ⟨runCommand_of_ok w _, runCommand_of_error w _⟩

end Sys2Proof.Machine

/-! SUPPORT. The encoder undoes the decoder (30_encoding.md R65, R67), and the two obligations of the round trip. -/

namespace Sys2Proof

theorem fields_encode (i : Instr) :
    reservedField (encode i) = 0 ∧ opField (encode i) = opOf i ∧ argField (encode i) = argOf i :=
  (decode_eq_ok_iff (encode i) i).1 (decode_encode i)

/-- A word and the word of its command have the same fields. -/
theorem encode_decode (w : Word) (i : Instr) (h : decode w = .ok i) : encode i = w := by
  obtain ⟨hr, ho, ha⟩ := (decode_eq_ok_iff w i).1 h
  obtain ⟨hr', ho', ha'⟩ := fields_encode i
  exact (word_eq_iff_fields _ _).2 ⟨hr'.trans hr.symm, ha'.trans ha.symm, ho'.trans ho.symm⟩

/-- Settles O1: the fields of a command's word are the command's. -/
theorem decodeInvertsEncode : Obligations.DecodeInvertsEncode := by
  intro i _
  exact decode_encode i

/-- Settles O2: a word that decodes has the fields of its command, and a word is its fields. -/
theorem encodeInvertsDecode : Obligations.EncodeInvertsDecode := encode_decode

/-- Settles O5: each word written out is its command's word, and the last has an `arg` where none is taken. -/
theorem writtenWordsDecode : Obligations.WrittenWordsDecode :=
  ⟨decode_encode .crcInit, decode_encode (.crcByte 0xFF), decode_encode .vfyRx, decode_encode .enc, decode_encode .dec,
    decode_encode (.connect 0x07), decode_encode .send, decode_encode .recv, decode_encode .disconnect, by decide⟩

end Sys2Proof

/-! SUPPORT. What is kept by every update a step makes is kept by every step and every run (20_memory.md R53). -/

namespace Sys2Proof.Machine

/-- A property of states that none of the updates a step is made of can break: the outside world's side, the end of a command, a host
write, a command, and the reset. -/
structure KeptByUpdates (P : State → Prop) : Prop where
  events : ∀ s es, P s → P (s.withEvents es)
  reads : ∀ s vs, P s → P (s.withReads vs)
  code : ∀ s k, P s → P (s.withCode k)
  write : ∀ s v r, P s → P (s.writeReg v r)
  exec : ∀ i s t, P s → exec i s = .next t → P t
  reset : ∀ s, P (resetBlock s)

section
variable {P : State → Prop} (hP : KeptByUpdates P)
include hP

theorem KeptByUpdates.step {s t : State} (hs : P s) (h : step s = .next t) : P t := by
  obtain ⟨-, rfl⟩ | ⟨n, es, -, rfl⟩ | ⟨n, v, es, -, -, rfl⟩ | ⟨w, es, i, -, -, hx⟩ | ⟨w, es, c, -, -, rfl⟩ | ⟨es, -, rfl⟩ |
    ⟨w, calls, es, whole, -, -, rfl⟩ := step_cases s t h
  · exact hs
  · exact hP.reads _ _ (hP.events s es hs)
  · exact hP.write _ v _ (hP.events s es hs)
  · exact hP.exec i _ t (hP.events s es hs) hx
  · exact hP.code _ _ (hP.events s es hs)
  · exact hP.reset _
  · exact hP.reset _

/-- The runs of the machine take one step after another. -/
theorem KeptByUpdates.run (k : Nat) {s t : State} (hs : P s) (h : core.run k s = .next t) : P t := by
  induction k generalizing s with
  | zero =>
    cases h
    exact hs
  | succ k ih =>
    simp only [Host.Core.run] at h
    split at h
    · rename_i u hu
      exact ih (hP.step hs hu) h
    · cases h
    · cases h

end

end Sys2Proof.Machine

/-! SUPPORT. The buffers stay in canonical form: no byte is written outside indexes 0..255 (70_reset_and_hazards.md R239). -/

namespace Sys2Proof.Machine

theorem plen_le_of_accepted (s : State) (h : s.requestRefused = false) : s.plen.toNat ≤ 252 := by
  have hargs := (requestRefused_iff s).not.1 (by simp [h])
  omega

theorem func_legal_of_accepted (s : State) (h : s.requestRefused = false) : 1 ≤ s.func.toNat ∧ s.func.toNat ≤ 127 := by
  have hargs := (requestRefused_iff s).not.1 (by simp [h])
  omega

section
variable {s : State}

/-- The last two writes of a session command go to no buffer. -/
theorem buffersCanonical.ended (h : buffersCanonical s) (c p : Bool) (d f : Byte) (k : StatusCode) :
    buffersCanonical ((s.withSession c p d f).withCode k) := h

theorem buffersCanonical.connectFail (h : buffersCanonical s) (k : StatusCode) : buffersCanonical (connectFail k s) := h

theorem buffersCanonical.issue (h : buffersCanonical s) (c : TpCall) : buffersCanonical (s.issue c) := h

theorem buffersCanonical.readFailed (h : buffersCanonical s) : buffersCanonical s.readFailed := h

theorem buffersCanonical.buildFrame (h : buffersCanonical s) (a f : Byte) (len : Nat) (hlen : len ≤ 252) :
    buffersCanonical (buildFrame a f len s) :=
  ⟨buildFrame_wf a f len s h.1 hlen, (buildFrame_rxbuf a f len s).symm ▸ h.2⟩

/-- A read returns at most 256 bytes, so loading them stays inside `RXBUF`. -/
theorem buffersCanonical.replyRead (h : buffersCanonical s) (bs : List Byte) (n : Byte) (hbs : bs.length ≤ 256) :
    buffersCanonical (s.replyRead bs n) :=
  ⟨h.1, Memory.wf_setFrom s.rxbuf 0 bs h.2 (by omega)⟩

theorem buffersCanonical.requestSent (h : buffersCanonical s) (hr : s.requestRefused = false) :
    buffersCanonical s.requestSent :=
  (h.buildFrame s.devaddr s.func s.plen.toNat (plen_le_of_accepted s hr)).issue _

theorem buffersCanonical.identificationSent (h : buffersCanonical s) (a : Byte) : buffersCanonical (s.identificationSent a) :=
  ((h.issue .tpOpen).buildFrame a 0x11 0 (by decide)).issue _

end

theorem writeReg_canonical (s : State) (v : Word) (r : HostReg) (h : buffersCanonical s) : buffersCanonical (s.writeReg v r) := by
  cases r with
  | txbuf i => exact ⟨Memory.wf_set s.txbuf i.toNat _ h.1 i.isLt, h.2⟩
  | rxbuf i => exact ⟨h.1, Memory.wf_set s.rxbuf i.toNat _ h.2 i.isLt⟩
  | _ => exact h

theorem exec_connect_canonical (a : Byte) (s t : State) (h : buffersCanonical s) (hx : exec (.connect a) s = .next t) :
    buffersCanonical t := by
  obtain ⟨-, rfl⟩ | ⟨-, -, rfl⟩ | ⟨-, -, -, rfl⟩ | ⟨-, -, -, -, rfl⟩ | ⟨bs, k, -, -, -, hr, -, rfl⟩ |
    ⟨bs, len, -, -, -, hr, -, rfl⟩ := exec_connect_cases a s t hx
  · exact h
  · exact h
  · exact (h.identificationSent a).connectFail .transportError
  · exact (h.identificationSent a).readFailed.connectFail .transportError
  · exact ((h.identificationSent a).replyRead bs 0 (Reply.received_le _ 256 bs hr)).connectFail k
  · exact ((h.identificationSent a).replyRead bs (len8 len) (Reply.received_le _ 256 bs hr)).ended true false a 0 .ok

theorem exec_send_canonical (s t : State) (h : buffersCanonical s) (hx : exec .send s = .next t) : buffersCanonical t := by
  obtain ⟨-, rfl⟩ | ⟨-, -, rfl⟩ | ⟨-, hr, -, rfl⟩ | ⟨-, hr, -, rfl⟩ := exec_send_cases s t hx
  · exact h
  · exact h
  · exact h.requestSent hr
  · exact (h.requestSent hr).ended true true s.devaddr s.func .ok

theorem exec_recv_canonical (s t : State) (h : buffersCanonical s) (hx : exec .recv s = .next t) : buffersCanonical t := by
  obtain ⟨-, rfl⟩ | ⟨-, -, rfl⟩ | ⟨bs, k, -, hr, -, rfl⟩ | ⟨bs, len, -, hr, -, rfl⟩ := exec_recv_cases s t hx
  · exact h
  · exact h.readFailed.ended s.connected false s.devaddr 0 .transportError
  · exact (h.replyRead bs 0 (Reply.received_le _ 256 bs hr)).ended s.connected false s.devaddr 0 k
  · exact (h.replyRead bs (len8 len) (Reply.received_le _ 256 bs hr)).ended s.connected false s.devaddr 0 .ok

theorem exec_canonical (i : Instr) (s t : State) (h : buffersCanonical s) (hx : exec i s = .next t) : buffersCanonical t := by
  cases i with
  | crcInit => cases hx; exact h
  | crcByte b => cases hx; exact h
  | crcTx => obtain ⟨-, rfl⟩ | ⟨-, rfl⟩ := exec_crcTx_cases s t hx <;> exact h
  | crcRx => obtain ⟨-, rfl⟩ | ⟨-, rfl⟩ := exec_crcRx_cases s t hx <;> exact h
  | vfyTx => obtain ⟨-, rfl⟩ | ⟨-, rfl⟩ := exec_vfyTx_cases s t hx <;> exact h
  | vfyRx => obtain ⟨-, rfl⟩ | ⟨-, rfl⟩ := exec_vfyRx_cases s t hx <;> exact h
  | enc =>
    obtain ⟨-, rfl⟩ | ⟨hr, rfl⟩ := exec_enc_cases s t hx
    · exact h
    · exact h.buildFrame s.addr s.func s.plen.toNat (plen_le_of_accepted s hr)
  | dec => obtain ⟨-, rfl⟩ | ⟨k, -, -, rfl⟩ | ⟨len, -, -, rfl⟩ := exec_dec_cases s t hx <;> exact h
  | connect a => exact exec_connect_canonical a s t h hx
  | send => exact exec_send_canonical s t h hx
  | recv => exact exec_recv_canonical s t h hx
  | disconnect => obtain ⟨-, rfl⟩ | ⟨-, rfl⟩ := exec_disconnect_cases s t hx <;> exact h

theorem buffersCanonical_kept : KeptByUpdates buffersCanonical where
  events _ _ h := h
  reads _ _ h := h
  code _ _ h := h
  write := writeReg_canonical
  exec := exec_canonical
  reset _ := ⟨rfl, rfl⟩

/-- Settles O22: every buffer write of the block and of the host lies below 256, whatever the lengths and the replies. -/
theorem stepKeepsTheBuffersCanonical : Obligations.StepKeepsTheBuffersCanonical := fun _ _ hs h =>
  buffersCanonical_kept.step hs h

end Sys2Proof.Machine

/-! SUPPORT. The five clauses of 10_state.md R24, update by update. -/

namespace Sys2Proof.Machine

theorem StatusCode.num_le (k : StatusCode) : k.num.toNat ≤ 7 := by cases k <;> decide

/-- What R24 speaks of: the session's fields, `RPLEN`, `TXLEN` and the bytes of `TXBUF`, which depend on the epoch where unwritten. Its
clause about `CODE` holds of every code. -/
def State.invariantView (s : State) : (Bool × Bool × Byte × Byte) × Byte × Len9 × Memory × Nat :=
  ((s.connected, s.pending, s.devaddr, s.pendfunc), s.rplen, s.txlen, s.txbuf, s.epoch)

theorem frameIntact_congr {s t : State} (htxlen : t.txlen = s.txlen) (htxbuf : t.txbuf = s.txbuf) (hepoch : t.epoch = s.epoch)
    (h : frameIntact s) : frameIntact t := by
  have hbyte : ∀ i, t.txByte i = s.txByte i := fun i => by rw [State.txByte, State.txByte, htxbuf, hepoch]
  have hslice : ∀ n, t.txSlice 0 n = s.txSlice 0 n := fun n => State.txSlice_congr s t 0 n fun i _ _ => hbyte i
  simpa only [frameIntact, htxlen, hbyte, hslice] using h

/-- A frame built in place is a frame with a good CRC (41_codec.md R102). -/
theorem frameIntact_buildFrame (a f : Byte) (len : Nat) (s : State) (hf : 1 ≤ f.toNat ∧ f.toNat ≤ 127) (hlen : len ≤ 252) :
    frameIntact (buildFrame a f len s) := by
  have htxlen : (buildFrame a f len s).txlen.toNat = len + 4 := by
    rw [buildFrame_txlen, len9_toNat _ (by omega)]
  have hfunc : (buildFrame a f len s).txByte 1 = f := by simp [buildFrame_txByte]
  have hwhole := crc16_wireFrame a f (s.txSlice 2 (2 + len))
  rw [← buildFrame_wire, State.txSlice_append _ 0 (len + 4 - 2) (len + 4) (by omega) (by omega),
    State.txSlice_cons _ (len + 4 - 2) _ (by omega), State.txSlice_cons _ (len + 4 - 2 + 1) _ (by omega),
    show len + 4 - 2 + 1 + 1 = len + 4 by omega, State.txSlice_empty, crc16_append_eq_zero_iff] at hwhole
  right
  rw [htxlen, hfunc]
  exact ⟨by omega, by omega, hf.1, hf.2, hwhole⟩

section
variable {s : State}

theorem BlockInv.of_view (h : BlockInv s) {t : State} (hv : t.invariantView = s.invariantView) : BlockInv t := by
  simp only [State.invariantView, Prod.mk.injEq] at hv
  obtain ⟨⟨hconnected, hpending, hdevaddr, hpendfunc⟩, hrplen, htxlen, htxbuf, hepoch⟩ := hv
  constructor
  · rw [hpending, hconnected]; exact h.pendingConnected
  · exact frameIntact_congr htxlen htxbuf hepoch h.frame
  · rw [hrplen]; exact h.replyLength
  · rw [hconnected, hdevaddr]; exact h.addressCleared
  · rw [hpending, hpendfunc]; exact h.functionCleared
  · rw [hpending, hpendfunc]; exact h.functionLegal
  · exact t.code.num_le

theorem BlockInv.withCode (h : BlockInv s) (k : StatusCode) : BlockInv (s.withCode k) := h.of_view rfl

theorem BlockInv.issue (h : BlockInv s) (c : TpCall) : BlockInv (s.issue c) := h.of_view rfl

/-- With `TXLEN` cleared there is no frame to speak of, whatever has been written to `TXBUF`. -/
theorem BlockInv.withTxlen_zero (h : BlockInv s) (m : Memory) : BlockInv ((s.withTxbuf m).withTxlen 0) where
  pendingConnected := h.pendingConnected
  frame := .inl rfl
  replyLength := h.replyLength
  addressCleared := h.addressCleared
  functionCleared := h.functionCleared
  functionLegal := h.functionLegal
  codeLegal := s.code.num_le

theorem BlockInv.withRplen (h : BlockInv s) (n : Byte) (hn : n.toNat ≤ 252) : BlockInv (s.withRplen n) where
  pendingConnected := h.pendingConnected
  frame := frameIntact_congr rfl rfl rfl h.frame
  replyLength := hn
  addressCleared := h.addressCleared
  functionCleared := h.functionCleared
  functionLegal := h.functionLegal
  codeLegal := s.code.num_le

theorem BlockInv.buildFrame (h : BlockInv s) (a f : Byte) (len : Nat) (hf : 1 ≤ f.toNat ∧ f.toNat ≤ 127) (hlen : len ≤ 252) :
    BlockInv (buildFrame a f len s) where
  pendingConnected := by simpa using h.pendingConnected
  frame := frameIntact_buildFrame a f len s hf hlen
  replyLength := by simpa using h.replyLength
  addressCleared := by simpa using h.addressCleared
  functionCleared := by simpa using h.functionCleared
  functionLegal := by simpa using h.functionLegal
  codeLegal := StatusCode.num_le _

/-- Disconnected, which is how a failed `CONNECT` and `DISCONNECT` end (42_session.md R123, R126). -/
theorem BlockInv.disconnected (h : BlockInv s) : BlockInv (s.withSession false false 0 0) where
  pendingConnected := nofun
  frame := frameIntact_congr rfl rfl rfl h.frame
  replyLength := h.replyLength
  addressCleared _ := rfl
  functionCleared _ := rfl
  functionLegal := nofun
  codeLegal := s.code.num_le

theorem BlockInv.idle (h : BlockInv s) (a : Byte) : BlockInv (s.withSession true false a 0) where
  pendingConnected := nofun
  frame := frameIntact_congr rfl rfl rfl h.frame
  replyLength := h.replyLength
  addressCleared := nofun
  functionCleared _ := rfl
  functionLegal := nofun
  codeLegal := s.code.num_le

theorem BlockInv.awaiting (h : BlockInv s) (a f : Byte) (hf : 1 ≤ f.toNat ∧ f.toNat ≤ 127) :
    BlockInv (s.withSession true true a f) where
  pendingConnected _ := rfl
  frame := frameIntact_congr rfl rfl rfl h.frame
  replyLength := h.replyLength
  addressCleared := nofun
  functionCleared := nofun
  functionLegal _ := hf
  codeLegal := s.code.num_le

theorem BlockInv.connectFail (h : BlockInv s) (k : StatusCode) : BlockInv (connectFail k s) := by
  rw [connectFail_eq]
  exact (h.issue .tpClose).disconnected.withCode k

theorem BlockInv.readFailed (h : BlockInv s) : BlockInv s.readFailed :=
  BlockInv.withRplen (s := (s.issue (.tpRead 256)).withRxlen 0) (h.of_view rfl) 0 (by decide)

theorem BlockInv.replyRead (h : BlockInv s) (bs : List Byte) (n : Byte) (hn : n.toNat ≤ 252) : BlockInv (s.replyRead bs n) :=
  BlockInv.withRplen (s := ((s.issue (.tpRead 256)).loadRx bs).withRxlen (len9 bs.length)) (h.of_view rfl) n hn

theorem BlockInv.requestSent (h : BlockInv s) (hr : s.requestRefused = false) : BlockInv s.requestSent :=
  (h.buildFrame s.devaddr s.func s.plen.toNat (func_legal_of_accepted s hr) (plen_le_of_accepted s hr)).issue _

theorem BlockInv.identificationSent (h : BlockInv s) (a : Byte) : BlockInv (s.identificationSent a) :=
  ((h.issue .tpOpen).buildFrame a 0x11 0 (by decide) (by decide)).issue _

end

/-- A decoded payload is at most 252 bytes long, so `RPLEN` holds its length (R24 (c)). -/
theorem payload_le (raw : List Byte) (ea ef : Byte) (len : Nat) (hraw : raw.length ≤ 256) (h : frameDecode raw ea ef = .ok len) :
    (len8 len).toNat ≤ 252 := by
  obtain ⟨-, hlen⟩ := frameDecode_ok raw ea ef len h
  rw [len8_toNat _ (by omega)]
  omega

theorem resetBlock_inv (s : State) : BlockInv (resetBlock s) where
  pendingConnected := nofun
  frame := .inl rfl
  replyLength := by simp
  addressCleared _ := rfl
  functionCleared _ := rfl
  functionLegal := nofun
  codeLegal := StatusCode.num_le _

theorem writeReg_inv (s : State) (v : Word) (r : HostReg) (h : BlockInv s) : BlockInv (s.writeReg v r) := by
  cases r with
  | txbuf i => exact h.withTxlen_zero _
  | _ => exact h.of_view rfl

/-! ### The commands keep the clauses -/

theorem exec_dec_inv (s t : State) (h : BlockInv s) (hx : exec .dec s = .next t) : BlockInv t := by
  obtain ⟨-, rfl⟩ | ⟨k, -, -, rfl⟩ | ⟨len, hle, hd, rfl⟩ := exec_dec_cases s t hx
  · exact (h.withRplen 0 (by decide)).withCode _
  · exact (h.withRplen 0 (by decide)).withCode _
  · have hlen : (len8 len).toNat ≤ 252 := payload_le _ _ _ len (by simpa using hle) hd
    exact (h.withRplen (len8 len) hlen).withCode _

theorem exec_connect_inv (a : Byte) (s t : State) (h : BlockInv s) (hx : exec (.connect a) s = .next t) : BlockInv t := by
  have hsent : BlockInv (s.identificationSent a) := h.identificationSent a
  obtain ⟨-, rfl⟩ | ⟨-, -, rfl⟩ | ⟨-, -, -, rfl⟩ | ⟨-, -, -, -, rfl⟩ | ⟨bs, k, -, -, -, -, -, rfl⟩ |
    ⟨bs, len, -, -, -, hr, hd, rfl⟩ := exec_connect_cases a s t hx
  · exact h.withCode _
  · exact (h.issue .tpOpen).withCode _
  · exact hsent.connectFail _
  · exact hsent.readFailed.connectFail _
  · exact (hsent.replyRead bs 0 (by decide)).connectFail k
  · have hlen : (len8 len).toNat ≤ 252 := payload_le bs a 0x11 len (Reply.received_le _ 256 bs hr) hd
    exact ((hsent.replyRead bs (len8 len) hlen).idle a).withCode _

theorem exec_send_inv (s t : State) (h : BlockInv s) (hx : exec .send s = .next t) : BlockInv t := by
  obtain ⟨-, rfl⟩ | ⟨-, -, rfl⟩ | ⟨-, hr, -, rfl⟩ | ⟨-, hr, -, rfl⟩ := exec_send_cases s t hx
  · exact h.withCode _
  · exact (h.withTxlen_zero s.txbuf).withCode _
  · exact (h.requestSent hr).withCode _
  · exact ((h.requestSent hr).awaiting s.devaddr s.func (func_legal_of_accepted s hr)).withCode _

/-- A reply outstanding means connected, so the session `RECV` leaves is Idle. -/
theorem exec_recv_inv (s t : State) (h : BlockInv s) (hx : exec .recv s = .next t) : BlockInv t := by
  obtain ⟨-, rfl⟩ | ⟨hp, -, rfl⟩ | ⟨bs, k, hp, -, -, rfl⟩ | ⟨bs, len, hp, hr, hd, rfl⟩ := exec_recv_cases s t hx
  · exact h.withCode _
  · rw [h.pendingConnected hp]
    exact (h.readFailed.idle s.devaddr).withCode _
  · rw [h.pendingConnected hp]
    exact ((h.replyRead bs 0 (by decide)).idle s.devaddr).withCode k
  · rw [h.pendingConnected hp]
    have hlen : (len8 len).toNat ≤ 252 := payload_le bs s.devaddr s.pendfunc len (Reply.received_le _ 256 bs hr) hd
    exact ((h.replyRead bs (len8 len) hlen).idle s.devaddr).withCode _

theorem exec_inv (i : Instr) (s t : State) (h : BlockInv s) (hx : exec i s = .next t) : BlockInv t := by
  cases i with
  | crcInit => cases hx; exact h.of_view rfl
  | crcByte b => cases hx; exact h.of_view rfl
  | crcTx => obtain ⟨-, rfl⟩ | ⟨-, rfl⟩ := exec_crcTx_cases s t hx <;> exact h.of_view rfl
  | crcRx => obtain ⟨-, rfl⟩ | ⟨-, rfl⟩ := exec_crcRx_cases s t hx <;> exact h.of_view rfl
  | vfyTx => obtain ⟨-, rfl⟩ | ⟨-, rfl⟩ := exec_vfyTx_cases s t hx <;> exact h.of_view rfl
  | vfyRx => obtain ⟨-, rfl⟩ | ⟨-, rfl⟩ := exec_vfyRx_cases s t hx <;> exact h.of_view rfl
  | enc =>
    obtain ⟨-, rfl⟩ | ⟨hr, rfl⟩ := exec_enc_cases s t hx
    · exact (h.withTxlen_zero s.txbuf).withCode _
    · exact (h.buildFrame s.addr s.func s.plen.toNat (func_legal_of_accepted s hr) (plen_le_of_accepted s hr)).withCode _
  | dec => exact exec_dec_inv s t h hx
  | connect a => exact exec_connect_inv a s t h hx
  | send => exact exec_send_inv s t h hx
  | recv => exact exec_recv_inv s t h hx
  | disconnect =>
    obtain ⟨-, rfl⟩ | ⟨-, rfl⟩ := exec_disconnect_cases s t hx
    · exact h.withCode _
    · exact (h.issue .tpClose).disconnected.withCode _

theorem blockInv_kept : KeptByUpdates BlockInv where
  events _ _ h := h.of_view rfl
  reads _ _ h := h.of_view rfl
  code _ k h := h.withCode k
  write := writeReg_inv
  exec := exec_inv
  reset := resetBlock_inv

/-! ### The obligations about the invariants (10_state.md R24, 42_session.md R129) -/

/-- Settles O21: each update a step is made of keeps the five clauses. -/
theorem stepKeepsTheBlockInvariants : Obligations.StepKeepsTheBlockInvariants := fun _ _ hs h => blockInv_kept.step hs h

/-- Settles O20: after reset there is no frame, no reply, no session, and no buffer byte written. -/
theorem resetSatisfiesTheInvariants : Obligations.ResetSatisfiesTheInvariants := by
  intro es rs epoch
  have hinv : BlockInv (resetInWorld es rs epoch) :=
    ⟨nofun, .inl rfl, Nat.zero_le 252, fun _ => rfl, fun _ => rfl, nofun, StatusCode.num_le _⟩
  exact ⟨hinv, rfl, rfl⟩

/-- Settles O23: the clauses hold at reset and every step keeps them. -/
theorem reachableStatesSatisfyTheInvariants : Obligations.ReachableStatesSatisfyTheInvariants := by
  intro es rs epoch k t h
  obtain ⟨hreset, -⟩ := resetSatisfiesTheInvariants es rs epoch
  exact blockInv_kept.run k hreset h

/-- Writing its own session fields to a state changes no `SESSION`: the forms of R129 are known of the written one. -/
theorem State.regWord_session_of_fields {t : State} {c p : Bool} {d f : Byte} (hc : t.connected = c) (hp : t.pending = p)
    (hd : t.devaddr = d) (hf : t.pendfunc = f) :
    t.regWord .session = ((t.withSession c p d f).withCode t.code).regWord .session := by
  subst hc hp hd hf
  rfl

/-- `SESSION` in a state with the clauses of R24 has one of the three forms of R129. -/
theorem BlockInv.session_forms {t : State} (h : BlockInv t) :
    t.regWord .session = sessionDisconnected ∨ (∃ a, t.regWord .session = sessionIdle a) ∨
      ∃ a f : Byte, 1 ≤ f.toNat ∧ f.toNat ≤ 127 ∧ t.regWord .session = sessionAwaiting a f := by
  cases hp : t.pending with
  | true =>
    obtain ⟨h1, h127⟩ := h.functionLegal hp
    refine .inr (.inr ⟨t.devaddr, t.pendfunc, h1, h127, ?_⟩)
    rw [State.regWord_session_of_fields (h.pendingConnected hp) hp rfl rfl, session_awaiting]
  | false =>
    have hfunc : t.pendfunc = 0 := h.functionCleared hp
    cases hc : t.connected with
    | true =>
      refine .inr (.inl ⟨t.devaddr, ?_⟩)
      rw [State.regWord_session_of_fields hc hp rfl hfunc, session_idle]
    | false =>
      left
      rw [State.regWord_session_of_fields hc hp (h.addressCleared hc) hfunc, session_disconnected]

/-- Settles O24: the forms follow from the clauses of R24, which every run keeps. -/
theorem reachableSessionValues : Obligations.ReachableSessionValues := by
  intro es rs epoch k t h
  have hinv : BlockInv t := reachableStatesSatisfyTheInvariants es rs epoch k t h
  refine ⟨hinv.session_forms, ?_⟩
  rintro ⟨hc, hp⟩
  simp [hinv.pendingConnected hp] at hc

end Sys2Proof.Machine

/-! SUPPORT. The table-driven CRC as the bitwise one, and the linearity of both over XOR (40_crc.md R82, R83, R85, R93). -/

namespace Sys2Proof.Machine

/-! ### The shifts are linear (R85) -/

theorem crcShift_xor (c d : Crc16) : crcShift (c ^^^ d) = crcShift c ^^^ crcShift d := by
  simp only [crcShift, BitVec.getLsbD_xor, BitVec.ushiftRight_xor_distrib]
  cases c.getLsbD 0 <;> cases d.getLsbD 0
  · rfl
  · exact BitVec.xor_assoc ..
  · show c >>> 1 ^^^ d >>> 1 ^^^ Config.crcPoly = c >>> 1 ^^^ Config.crcPoly ^^^ d >>> 1
    ac_rfl
  · show c >>> 1 ^^^ d >>> 1 = c >>> 1 ^^^ Config.crcPoly ^^^ (d >>> 1 ^^^ Config.crcPoly)
    simp [BitVec.xor_assoc, BitVec.xor_comm (d >>> 1)]

theorem crcShifts_xor (k : Nat) (c d : Crc16) : crcShifts k (c ^^^ d) = crcShifts k c ^^^ crcShifts k d := by
  induction k generalizing c d with
  | zero => rfl
  | succ k ih => simp only [crcShifts, crcShift_xor, ih]

theorem crcTableWord_xor (i j : Byte) : crcTableWord (i ^^^ j) = crcTableWord i ^^^ crcTableWord j := by
  simp only [crcTableWord, BitVec.setWidth_xor, crcShifts_xor]

/-- Eight shifts bring a high byte down: all its bits go out without meeting the polynomial. -/
theorem crcShifts_high_byte : ∀ hi : Byte, crcShifts 8 (hi.setWidth 16 <<< 8) = hi.setWidth 16 := by decide

/-! ### A CRC pair as a 16-bit value (20_memory.md R43) -/

/-- The two halves share no bit, so they may be put together by XOR. -/
theorem packCrc_eq_xor (lo hi : Byte) : packCrc (lo, hi) = lo.setWidth 16 ^^^ (hi.setWidth 16 <<< 8) := by
  refine BitVec.eq_of_getLsbD_eq fun j hj => ?_
  by_cases h8 : j < 8
  · simp [packCrc, hj, h8]
  · have hlo : lo.getLsbD j = false := BitVec.getLsbD_of_ge lo j (by omega)
    simp [packCrc, hj, h8, hlo]

theorem packCrc_xor (lo hi lo' hi' : Byte) :
    packCrc (lo ^^^ lo', hi ^^^ hi') = packCrc (lo, hi) ^^^ packCrc (lo', hi') := by
  simp only [packCrc_eq_xor, BitVec.setWidth_xor, BitVec.shiftLeft_xor_distrib]
  ac_rfl

theorem packCrc_low (b : Byte) : packCrc (b, 0) = b.setWidth 16 := by simp [packCrc]

theorem packCrc_injective : Function.Injective packCrc := by
  rintro ⟨lo, hi⟩ ⟨lo', hi'⟩ h
  have hlo : lo = lo' := by simpa using congrArg loByte h
  have hhi : hi = hi' := by simpa using congrArg hiByte h
  rw [hlo, hhi]

theorem packCrc_shiftRight (lo hi : Byte) : packCrc (lo, hi) >>> 8 = hi.setWidth 16 := by
  refine BitVec.eq_of_getLsbD_eq fun j hj => ?_
  by_cases h8 : 8 + j < 16
  · simp [packCrc, hj, h8]
  · have hhi : hi.getLsbD j = false := BitVec.getLsbD_of_ge hi j (by omega)
    simp [packCrc, hhi, h8]

theorem loByte_packCrc_xor (lo hi b : Byte) : loByte (packCrc (lo, hi) ^^^ b.setWidth 16) = lo ^^^ b := by
  rw [← packCrc_low, ← packCrc_xor, loByte_packCrc]

/-! ### The tables are the bitwise table (R82, R83) -/

/-- Settles O26: every entry, and every group of four, evaluated. -/
theorem crcTablesAreTheBitwiseTable : Obligations.CrcTablesAreTheBitwiseTable := by
  refine ⟨?_, ?_, ?_⟩
  · decide
  · decide
  · decide

theorem packCrc_tables (i : Byte) : packCrc (thi i, tlo i) = crcTableWord i := by
  obtain ⟨htables, -⟩ := crcTablesAreTheBitwiseTable
  obtain ⟨hthi, htlo⟩ := htables i
  rw [hthi, htlo, packCrc_halves]

/-- The tables are linear because the bitwise table is. -/
theorem tables_xor (i j : Byte) : thi (i ^^^ j) = thi i ^^^ thi j ∧ tlo (i ^^^ j) = tlo i ^^^ tlo j := by
  have h : packCrc (thi (i ^^^ j), tlo (i ^^^ j)) = packCrc (thi i ^^^ thi j, tlo i ^^^ tlo j) := by
    simp only [packCrc_xor, packCrc_tables, crcTableWord_xor]
  exact Prod.mk.inj (packCrc_injective h)

/-! ### The table-driven step is the bitwise step (R81, R85) -/

/-- Eight shifts of a pair with a byte XORed in: the low byte becomes a table entry, the high byte comes down. -/
theorem crcBitwiseStep_packCrc (lo hi b : Byte) :
    crcBitwiseStep (packCrc (lo, hi)) b = hi.setWidth 16 ^^^ crcTableWord (lo ^^^ b) := by
  have hsplit : packCrc (lo, hi) ^^^ b.setWidth 16 = (hi.setWidth 16 <<< 8) ^^^ (lo ^^^ b).setWidth 16 := by
    rw [packCrc_eq_xor, BitVec.setWidth_xor]
    ac_rfl
  rw [crcBitwiseStep, hsplit, crcShifts_xor, crcShifts_high_byte, crcTableWord]

theorem packCrc_crcStep (c : Byte × Byte) (b : Byte) : packCrc (crcStep c b) = crcBitwiseStep (packCrc c) b := by
  obtain ⟨lo, hi⟩ := c
  calc packCrc (hi ^^^ thi (lo ^^^ b), tlo (lo ^^^ b))
    _ = packCrc (hi ^^^ thi (lo ^^^ b), 0 ^^^ tlo (lo ^^^ b)) := by rw [show 0 ^^^ tlo (lo ^^^ b) = _ from BitVec.zero_xor]
    _ = hi.setWidth 16 ^^^ crcTableWord (lo ^^^ b) := by rw [packCrc_xor, packCrc_low, packCrc_tables]
    _ = crcBitwiseStep (packCrc (lo, hi)) b := (crcBitwiseStep_packCrc lo hi b).symm

theorem packCrc_crcFrom (c : Byte × Byte) (x : List Byte) : packCrc (crcFrom c x) = x.foldl crcBitwiseStep (packCrc c) := by
  induction x generalizing c with
  | nil => rfl
  | cons b x ih => rw [crcFrom_cons, ih, packCrc_crcStep, List.foldl_cons]

/-- Two tables with which the step is the bitwise step are read off it at the pair `(i, 0)` and the byte 0. -/
theorem tables_unique (th tl : Byte → Byte)
    (h : ∀ lo hi b : Byte, packCrc (hi ^^^ th (lo ^^^ b), tl (lo ^^^ b)) = crcBitwiseStep (packCrc (lo, hi)) b) (i : Byte) :
    th i = thi i ∧ tl i = tlo i := by
  have hpair := packCrc_injective ((h i 0 0).trans (packCrc_crcStep (i, 0) 0).symm)
  simpa [crcStep] using hpair

/-- Settles O27: shifts are linear, so a step is one look-up for the low byte and a move for the high byte. -/
theorem crcIsTheBitwiseModbusCrc : Obligations.CrcIsTheBitwiseModbusCrc := by
  refine ⟨?_, ?_, ?_, by decide, by decide⟩
  · intro x
    exact packCrc_crcFrom (Config.crcSeedByte, Config.crcSeedByte) x
  · intro th tl
    constructor
    · intro h
      exact ⟨funext fun i => (tables_unique th tl h i).1, funext fun i => (tables_unique th tl h i).2⟩
    · rintro ⟨rfl, rfl⟩ lo hi b
      exact packCrc_crcStep (lo, hi) b
  · intro c b
    rw [← packCrc_halves c, packCrc_shiftRight, loByte_packCrc_xor, crcBitwiseStep_packCrc]

/-! ### Linearity of the CRC (R93) -/

/-- XOR of two CRC pairs. -/
def crcXor (c d : Byte × Byte) : Byte × Byte := (c.1 ^^^ d.1, c.2 ^^^ d.2)

theorem crcStep_xor (c d : Byte × Byte) (a b : Byte) : crcStep (crcXor c d) (a ^^^ b) = crcXor (crcStep c a) (crcStep d b) := by
  have hindex : c.1 ^^^ d.1 ^^^ (a ^^^ b) = c.1 ^^^ a ^^^ (d.1 ^^^ b) := by ac_rfl
  obtain ⟨hthi, htlo⟩ := tables_xor (c.1 ^^^ a) (d.1 ^^^ b)
  refine Prod.ext ?_ ?_
  · show c.2 ^^^ d.2 ^^^ thi (c.1 ^^^ d.1 ^^^ (a ^^^ b)) = c.2 ^^^ thi (c.1 ^^^ a) ^^^ (d.2 ^^^ thi (d.1 ^^^ b))
    rw [hindex, hthi]
    ac_rfl
  · show tlo (c.1 ^^^ d.1 ^^^ (a ^^^ b)) = tlo (c.1 ^^^ a) ^^^ tlo (d.1 ^^^ b)
    rw [hindex, htlo]

theorem crcFrom_xorBytes (c d : Byte × Byte) (x e : List Byte) (h : x.length = e.length) :
    crcFrom (crcXor c d) (xorBytes x e) = crcXor (crcFrom c x) (crcFrom d e) := by
  induction x generalizing c d e with
  | nil =>
    obtain rfl : e = [] := List.length_eq_zero_iff.1 h.symm
    rfl
  | cons a x ih =>
    cases e with
    | nil => cases h
    | cons b e =>
      have hrest : x.length = e.length := by simpa using h
      calc crcFrom (crcXor c d) (xorBytes (a :: x) (b :: e))
        _ = crcFrom (crcStep (crcXor c d) (a ^^^ b)) (xorBytes x e) := rfl
        _ = crcXor (crcFrom (crcStep c a) x) (crcFrom (crcStep d b) e) := by rw [crcStep_xor, ih _ _ e hrest]

/-- Settles O28: the CRC's own bytes and no others bring it to 0, and each step is linear. -/
theorem crcLaws : Obligations.CrcLaws := by
  refine ⟨rfl, ?_, ?_, ?_⟩
  · intro m
    exact (crc16_append_eq_zero_iff m _ _).2 rfl
  · intro m lo hi
    rw [crc16_append_eq_zero_iff, verify_iff]
  · intro x e h
    exact crcFrom_xorBytes (Config.crcSeedByte, Config.crcSeedByte) (0, 0) x e h

/-! ### A run of `CRC.BYTE` (R88) -/

/-- One `CRC.BYTE` per byte takes the CRC step by step along the sequence. -/
theorem execAll_crcByte (bs : List Byte) (s : State) (c : Byte × Byte) :
    execAll (bs.map .crcByte) ((s.withCrc (packCrc c)).withCode .ok) =
      .next ((s.withCrc (packCrc (crcFrom c bs))).withCode .ok) := by
  induction bs generalizing c with
  | nil => rfl
  | cons b bs ih =>
    have hstep : exec (.crcByte b) ((s.withCrc (packCrc c)).withCode .ok) =
        .next ((s.withCrc (packCrc (crcStep c b))).withCode .ok) := by
      rw [exec, execCrcByte, State.withCode_crc, State.withCrc_crc, loByte_packCrc, hiByte_packCrc]
      rfl
    rw [List.map_cons, execAll, hstep, crcFrom_cons]
    exact ih (crcStep c b)

/-- Settles O31: one step per command, from the seed `CRC.INIT` loads. -/
theorem crcByteIsOneStep : Obligations.CrcByteIsOneStep := by
  refine ⟨fun b => decode_encode (.crcByte b), ?_, ?_, by decide⟩
  · intro b s
    exact ⟨_, rfl, withCrc_endsWith s (crcStep (loByte s.crc, hiByte s.crc) b)⟩
  · intro bs s
    exact ⟨_, execAll_crcByte bs s (Config.crcSeedByte, Config.crcSeedByte), withCrc_endsWith s (crc16 bs)⟩

end Sys2Proof.Machine

/-! SUPPORT. A built frame is decoded again (41_codec.md R105, R106). -/

namespace Sys2Proof.Machine

theorem frameDecode_wireFrame (a f ea ef : Byte) (p : List Byte) :
    frameDecode (wireFrame a f p) ea ef = if a = ea ∧ f = ef then .ok p.length else .error .protocolError :=
  (frameDecode_parts a f _ _ ea ef p).trans (if_pos rfl)

/-- The payload is the middle of its frame. -/
theorem wireFrame_payload (a f : Byte) (p : List Byte) : ((wireFrame a f p).drop 2).take p.length = p := by
  simp [wireFrame]

/-- `DEC` on a copy of a frame built in place, against the same address and function. -/
theorem exec_dec_of_buildFrame (s u : State) (a f : Byte) (len : Nat) (hlen : len ≤ 252) (haddr : u.addr = a)
    (hfunc : u.func = f) (hrxlen : u.rxlen = len9 (len + 4))
    (hcopy : ∀ i, i < len + 4 → u.rxByte i = (buildFrame a f len s).txByte i) :
    exec .dec u = .next ((u.withRplen (len8 len)).withCode .ok) := by
  have hcount : u.rxlen.toNat = len + 4 := by rw [hrxlen, len9_toNat _ (by omega)]
  refine exec_dec_ok u len (by omega) ?_
  rw [hcount, State.rxSlice_eq_txSlice (buildFrame a f len s) u (len + 4) hcopy, buildFrame_wire, frameDecode_wireFrame,
    if_pos ⟨haddr.symm, hfunc.symm⟩, State.txSlice_length, Nat.add_sub_cancel_left]

theorem len8_toNat_self (b : Byte) : len8 b.toNat = b := by simp [len8]

/-- Settles O40: a frame decodes as its payload; in registers, `DEC` meets in `RXBUF` the frame `ENC` has built. -/
theorem encodeThenDecodeRecoversThePayload : Obligations.EncodeThenDecodeRecoversThePayload := by
  constructor
  · intro a f p h1 h127 hp
    exact ⟨_, frameEncode_ok a f p h1 h127 hp, wireFrame_length a f p,
      (frameDecode_wireFrame a f a f p).trans (if_pos ⟨rfl, rfl⟩), wireFrame_payload a f p⟩
  · intro s t u hx hcode haddr hfunc hrxlen hcopy
    obtain ⟨-, rfl⟩ | ⟨hr, rfl⟩ := exec_enc_cases s t hx
    · cases hcode
    · have hp : s.plen.toNat ≤ 252 := plen_le_of_accepted s hr
      simp only [State.withCode_txlen, State.withCode_addr, State.withCode_func, State.withCode_plen, State.withCode_txByte,
        buildFrame_txlen, buildFrame_addr, buildFrame_func, buildFrame_plen, len9_toNat _ (show s.plen.toNat + 4 < 512 by omega)]
        at haddr hfunc hrxlen hcopy ⊢
      refine ⟨_, exec_dec_of_buildFrame s u s.addr s.func s.plen.toNat hp haddr hfunc hrxlen hcopy, rfl, len8_toNat_self _, ?_⟩
      intro i hi
      exact hcopy (2 + i) (by omega)

/-- Settles O41: the CRC of a built frame is good, so its header decides. -/
theorem foreignFrameIsProtocolError : Obligations.ForeignFrameIsProtocolError := by
  intro a f ea ef p F hF hne
  obtain rfl := frameEncode_eq_wireFrame a f p F hF
  rw [frameDecode_wireFrame, if_neg]
  rintro ⟨rfl, rfl⟩
  exact hne rfl

end Sys2Proof.Machine

/-! SUPPORT. The value of `STATUS` and its two parts (10_state.md R14, 60_exceptions.md R200). -/

namespace Sys2Proof.Machine

/-- The eight kinds in the order of their numbers (R200). -/
def statusCodes : List StatusCode :=
  [.ok, .invalidArgument, .timeout, .badCrc, .protocolError, .transportError, .illegalState, .illegalCommand]

/-- A kind's number is its place in the list. -/
theorem statusCodes_num (k : StatusCode) : statusCodes[k.num.toNat]? = some k := by cases k <;> rfl

theorem StatusCode.num_injective : Function.Injective StatusCode.num := by
  intro k j h
  have hplace : statusCodes[k.num.toNat]? = statusCodes[j.num.toNat]? := by rw [h]
  rw [statusCodes_num, statusCodes_num] at hplace
  exact Option.some.inj hplace

theorem State.regWord_status (s : State) : s.regWord .status = statusValue s.code s.matched := rfl

/-- `CODE` and `MATCH` share no bit of `STATUS` (R14). -/
theorem statusValue_toNat (k : StatusCode) (m : Bool) : (statusValue k m).toNat = k.num.toNat + 16 * m.toNat := by
  cases k <;> cases m <;> rfl

theorem statusValue_getLsbD_match (k : StatusCode) (m : Bool) : (statusValue k m).getLsbD 4 = m := by
  cases k <;> cases m <;> rfl

theorem statusValue_toNat_mod (k : StatusCode) (m : Bool) : (statusValue k m).toNat % 16 = k.num.toNat := by
  have hk := k.num_le
  rw [statusValue_toNat]
  omega

theorem statusValue_inj {k j : StatusCode} {m n : Bool} (h : statusValue k m = statusValue j n) : k = j ∧ m = n := by
  constructor
  · refine StatusCode.num_injective (BitVec.eq_of_toNat_eq ?_)
    rw [← statusValue_toNat_mod k m, ← statusValue_toNat_mod j n, h]
  · rw [← statusValue_getLsbD_match k m, ← statusValue_getLsbD_match j n, h]

/-- Settles O16: the numbers are the places in the list of the eight kinds, and `complete` writes them to bits 3:0. -/
theorem statusCodesHaveTheirNumbers : Obligations.StatusCodesHaveTheirNumbers :=
  ⟨rfl, fun _ _ h => StatusCode.num_injective h, fun s k => statusValue_toNat_mod k s.matched⟩

end Sys2Proof.Machine

/-! SUPPORT. How every command ends, said once: its code, `MATCH`, what it changes, what it sends, and what it leaves to the outside
world (10_state.md R11, R14, 42_session.md R127, 60_exceptions.md R201). -/

namespace Sys2Proof.Machine

/-- The registers and buffer bytes a command may change when it runs in a state. -/
def mayChange (i : Instr) (s : State) : HostReg → Prop := fun r => commandWrites i r ∨ storesTo i s r

/-- The sequences of transport transactions a command can issue (42_session.md R127, R128). -/
def possibleCalls : Instr → State → List (List TpCall)
  | .connect a, _ =>
    [[], [.tpOpen], [.tpOpen, .tpWrite (wireFrame a 0x11 []), .tpClose],
      [.tpOpen, .tpWrite (wireFrame a 0x11 []), .tpRead 256, .tpClose],
      [.tpOpen, .tpWrite (wireFrame a 0x11 []), .tpRead 256]]
  | .send, s => [[], [.tpWrite (wireFrame s.devaddr s.func (s.txSlice 2 (2 + s.plen.toNat)))]]
  | .recv, _ => [[], [.tpRead 256]]
  | .disconnect, _ => [[], [.tpClose]]
  | _, _ => [[]]

/-- What holds of a state `t` in which command `i`, run in `s`, can end. -/
structure Ending (i : Instr) (s t : State) : Prop where
  code : t.code ∈ endingCodes i
  matched : i ≠ .vfyTx → i ≠ .vfyRx → t.matched = s.matched
  reads : readsAsBefore (mayChange i s) s t
  issued : ∃ calls ∈ possibleCalls i s, issuedExactly calls s t
  world : sameWorld s t

theorem commandWrites_status (i : Instr) : commandWrites i .status := by cases i <;> simp [commandWrites]

theorem nil_mem_possibleCalls (i : Instr) (s : State) : [] ∈ possibleCalls i s := by cases i <;> simp [possibleCalls]

section
variable {i : Instr} {s t : State} {k : StatusCode} {m : Bool} {changed : HostReg → Prop} {calls : List TpCall}

/-- A path of a command, known register by register, is an ending of the command. -/
theorem Ending.of_endsWith (h : endsWith k m changed calls s t) (hk : k ∈ endingCodes i)
    (hm : i ≠ .vfyTx → i ≠ .vfyRx → m = s.matched) (hc : ∀ r, changed r → mayChange i s r)
    (hcalls : calls ∈ possibleCalls i s) : Ending i s t := by
  obtain ⟨hstatus, hreads, hissued, hworld⟩ := h
  obtain ⟨hcode, hmatched⟩ := statusValue_inj (t.regWord_status.symm.trans hstatus)
  refine ⟨hcode ▸ hk, fun htx hrx => hmatched.trans (hm htx hrx), ?_, ⟨calls, hcalls, hissued⟩, hworld⟩
  intro r hr
  refine hreads r fun hr' => hr ?_
  obtain rfl | hr' := hr'
  · exact .inl (commandWrites_status i)
  · exact hc r hr'

/-- A path that issues no transaction and keeps `MATCH`. -/
theorem Ending.of_quiet (h : endsWith k s.matched changed [] s t) (hk : k ∈ endingCodes i)
    (hc : ∀ r, changed r → mayChange i s r) : Ending i s t :=
  .of_endsWith h hk (fun _ _ => rfl) hc (nil_mem_possibleCalls i s)

/-- A path that only ends the command. -/
theorem Ending.of_withCode (hk : k ∈ endingCodes i) : Ending i s (s.withCode k) :=
  .of_quiet (endsWith_withCode k s) hk fun _ hr => hr.elim

end

/-! ### The CRC unit and the codec -/

section
variable {s t : State}

theorem ending_withCrc (i : Instr) (c : Byte × Byte) (hk : .ok ∈ endingCodes i) (hcrc : commandWrites i .crc) :
    Ending i s ((s.withCrc (packCrc c)).withCode .ok) :=
  .of_quiet (withCrc_endsWith s c).2 hk fun _ hr => .inl (hr ▸ hcrc)

/-- `MATCH` may change only where the command is one of the two that write it. -/
theorem ending_withMatch (i : Instr) (m : Bool) (k : StatusCode) (hi : i = .vfyTx ∨ i = .vfyRx) (hk : k ∈ endingCodes i) :
    Ending i s ((s.withMatch m).withCode k) :=
  .of_endsWith (withMatch_endsWith s m k) hk (fun htx hrx => absurd hi (not_or.2 ⟨htx, hrx⟩)) (fun _ hr => hr.elim)
    (nil_mem_possibleCalls i s)

theorem ending_withTxlen (i : Instr) (v : Len9) (k : StatusCode) (hk : k ∈ endingCodes i) (htxlen : commandWrites i .txlen) :
    Ending i s ((s.withTxlen v).withCode k) :=
  .of_quiet (withTxlen_endsWith s v k) hk fun _ hr => .inl (hr ▸ htxlen)

theorem ending_withRplen (v : Byte) (k : StatusCode) (hk : k ∈ endingCodes .dec) :
    Ending .dec s ((s.withRplen v).withCode k) :=
  .of_quiet (withRplen_endsWith s v k) hk fun _ hr => .inl (.inr hr)

theorem frameDecode_error_mem (i : Instr) (raw : List Byte) (ea ef : Byte) (k : StatusCode)
    (hi : .timeout ∈ endingCodes i ∧ .badCrc ∈ endingCodes i ∧ .protocolError ∈ endingCodes i)
    (h : frameDecode raw ea ef = .error k) : k ∈ endingCodes i := by
  obtain ⟨htimeout, hcrc, hprotocol⟩ := hi
  obtain rfl | rfl | rfl := frameDecode_error raw ea ef k h
  · exact htimeout
  · exact hcrc
  · exact hprotocol

theorem exec_enc_ending (h : exec .enc s = .next t) : Ending .enc s t := by
  obtain ⟨-, rfl⟩ | ⟨hr, rfl⟩ := exec_enc_cases s t h
  · exact ending_withTxlen .enc 0 _ (by decide) (.inr rfl)
  · refine .of_quiet (buildFrame_endsWith _ _ _ s .ok) (by decide) ?_
    rintro r (htxlen | hbytes)
    · exact .inl (.inr htxlen)
    · exact .inr ⟨hr, hbytes⟩

theorem exec_dec_ending (h : exec .dec s = .next t) : Ending .dec s t := by
  obtain ⟨-, rfl⟩ | ⟨k, -, hd, rfl⟩ | ⟨len, -, -, rfl⟩ := exec_dec_cases s t h
  · exact ending_withRplen 0 _ (by decide)
  · exact ending_withRplen 0 k (frameDecode_error_mem .dec _ _ _ k (by decide) hd)
  · exact ending_withRplen _ _ (by decide)

/-! ### The session unit -/

theorem exec_disconnect_ending (h : exec .disconnect s = .next t) : Ending .disconnect s t := by
  obtain ⟨-, rfl⟩ | ⟨-, rfl⟩ := exec_disconnect_cases s t h
  · exact .of_withCode (by decide)
  · refine .of_endsWith ((closed_progress s).endsWith_code _) ?_ (fun _ _ => rfl) (fun _ hr => .inl (.inr hr))
      (by simp [possibleCalls])
    split <;> decide

theorem exec_send_ending (h : exec .send s = .next t) : Ending .send s t := by
  obtain ⟨-, rfl⟩ | ⟨-, -, rfl⟩ | ⟨⟨hc, hp⟩, hr, -, rfl⟩ | ⟨⟨hc, hp⟩, hr, -, rfl⟩ := exec_send_cases s t h
  · exact .of_withCode (by decide)
  · exact ending_withTxlen .send 0 _ (by decide) (.inr (.inr rfl))
  · refine .of_endsWith ((requestSent_progress s).endsWith_code .transportError) (by decide) (fun _ _ => rfl) ?_
      (by simp [possibleCalls])
    rintro r (htxlen | hbytes)
    · exact .inl (.inr (.inr htxlen))
    · exact .inr ⟨hc, hp, hr, hbytes⟩
  · refine .of_endsWith (((requestSent_progress s).withSession true true s.devaddr s.func).endsWith_code .ok) (by decide)
      (fun _ _ => rfl) ?_ (by simp [possibleCalls])
    rintro r (hsession | htxlen | hbytes)
    · exact .inl (.inr (.inl hsession))
    · exact .inl (.inr (.inr htxlen))
    · exact .inr ⟨hc, hp, hr, hbytes⟩

theorem recv_mayChange {bs : List Byte} {r : HostReg} (hp : s.pending = true) (hr : (s.replyAt 0).received 256 = some bs)
    (h : r = .session ∨ r = .rxlen ∨ r = .rplen ∨ rxIndex (fun i => i < bs.length) r) : mayChange .recv s r := by
  obtain hsession | hrxlen | hrplen | hbytes := h
  · exact .inl (.inr (.inl hsession))
  · exact .inl (.inr (.inr (.inl hrxlen)))
  · exact .inl (.inr (.inr (.inr hrplen)))
  · exact .inr ⟨hp, bs, hr, hbytes⟩

theorem exec_recv_ending (h : exec .recv s = .next t) : Ending .recv s t := by
  obtain ⟨-, rfl⟩ | ⟨-, -, rfl⟩ | ⟨bs, k, hp, hr, hd, rfl⟩ | ⟨bs, len, hp, hr, -, rfl⟩ := exec_recv_cases s t h
  · exact .of_withCode (by decide)
  · exact .of_endsWith (((recv_readFailed_progress s).withSession s.connected false s.devaddr 0).endsWith_code .transportError)
      (by decide) (fun _ _ => rfl) (fun _ hc => .inl (.inr hc)) (by simp [possibleCalls])
  · exact .of_endsWith (((recv_replyRead_progress s bs 0).withSession s.connected false s.devaddr 0).endsWith_code k)
      (frameDecode_error_mem .recv _ _ _ k (by decide) hd) (fun _ _ => rfl) (fun _ hc => recv_mayChange hp hr hc)
      (by simp [possibleCalls])
  · exact .of_endsWith (((recv_replyRead_progress s bs (len8 len)).withSession s.connected false s.devaddr 0).endsWith_code .ok)
      (by decide) (fun _ _ => rfl) (fun _ hc => recv_mayChange hp hr hc) (by simp [possibleCalls])

/-- What `CONNECT` may change once the transport has opened. -/
theorem connect_mayChange {a : Byte} {r : HostReg} (hc : s.connected = false) (ho : (s.replyAt 0).accepted = true)
    (h : r = .session ∨ r = .txlen ∨ r = .rxlen ∨ r = .rplen ∨ frameBytes 0 r) : mayChange (.connect a) s r := by
  obtain hsession | htxlen | hrxlen | hrplen | hbytes := h
  · exact .inl (.inr (.inl hsession))
  · exact .inl (.inr (.inr (.inl htxlen)))
  · exact .inl (.inr (.inr (.inr (.inl hrxlen))))
  · exact .inl (.inr (.inr (.inr (.inr hrplen))))
  · exact .inr ⟨hc, ho, .inl hbytes⟩

/-- What it may change once it has read a reply. -/
theorem connect_mayChange_reply {a : Byte} {bs : List Byte} {r : HostReg} (hc : s.connected = false)
    (ho : (s.replyAt 0).accepted = true) (hw : (s.replyAt 1).written 4 = some 4) (hr : (s.replyAt 2).received 256 = some bs)
    (h : r = .session ∨ r = .txlen ∨ r = .rxlen ∨ r = .rplen ∨ frameBytes 0 r ∨ rxIndex (fun i => i < bs.length) r) :
    mayChange (.connect a) s r := by
  by_cases hbytes : rxIndex (fun i => i < bs.length) r
  · exact .inr ⟨hc, ho, .inr ⟨hw, bs, hr, hbytes⟩⟩
  · exact connect_mayChange hc ho (by tauto)

theorem exec_connect_ending {a : Byte} (h : exec (.connect a) s = .next t) : Ending (.connect a) s t := by
  obtain ⟨-, rfl⟩ | ⟨-, -, rfl⟩ | ⟨hc, ho, -, rfl⟩ | ⟨hc, ho, -, -, rfl⟩ | ⟨bs, k, hc, ho, hw, hr, hd, rfl⟩ |
    ⟨bs, len, hc, ho, hw, hr, -, rfl⟩ := exec_connect_cases a s t h
  · exact .of_withCode (by simp [endingCodes])
  · exact .of_endsWith (((Progress.refl s).issue .tpOpen).endsWith_code .transportError) (by simp [endingCodes]) (fun _ _ => rfl)
      (fun _ hr => hr.elim) (by simp [possibleCalls])
  · exact .of_endsWith ((identificationSent_progress s a).endsWith_connectFail .transportError) (by simp [endingCodes])
      (fun _ _ => rfl) (fun _ hr => connect_mayChange hc ho (by tauto)) (by simp [possibleCalls])
  · exact .of_endsWith ((identification_readFailed_progress a s).endsWith_connectFail .transportError) (by simp [endingCodes])
      (fun _ _ => rfl) (fun _ hr => connect_mayChange hc ho hr) (by simp [possibleCalls])
  · exact .of_endsWith ((identification_replyRead_progress a s bs 0).endsWith_connectFail k)
      (frameDecode_error_mem (.connect a) _ _ _ k (by simp [endingCodes]) hd) (fun _ _ => rfl)
      (fun _ hr' => connect_mayChange_reply hc ho hw hr hr') (by simp [possibleCalls])
  · exact .of_endsWith (((identification_replyRead_progress a s bs (len8 len)).withSession true false a 0).endsWith_code .ok)
      (by simp [endingCodes]) (fun _ _ => rfl) (fun _ hr' => connect_mayChange_reply hc ho hw hr hr') (by simp [possibleCalls])

end

/-! ### Every command -/

/-- Whatever path a command takes, it ends as its rules say. -/
theorem exec_ending (i : Instr) (s t : State) (h : exec i s = .next t) : Ending i s t := by
  cases i with
  | crcInit => cases h; exact ending_withCrc .crcInit _ (by decide) (.inr rfl)
  | crcByte b => cases h; exact ending_withCrc (.crcByte b) _ (by simp [endingCodes]) (.inr rfl)
  | crcTx =>
    obtain ⟨-, rfl⟩ | ⟨-, rfl⟩ := exec_crcTx_cases s t h
    · exact .of_withCode (by decide)
    · exact ending_withCrc .crcTx _ (by decide) (.inr rfl)
  | crcRx =>
    obtain ⟨-, rfl⟩ | ⟨-, rfl⟩ := exec_crcRx_cases s t h
    · exact .of_withCode (by decide)
    · exact ending_withCrc .crcRx _ (by decide) (.inr rfl)
  | vfyTx => obtain ⟨-, rfl⟩ | ⟨-, rfl⟩ := exec_vfyTx_cases s t h <;> exact ending_withMatch .vfyTx _ _ (.inl rfl) (by decide)
  | vfyRx => obtain ⟨-, rfl⟩ | ⟨-, rfl⟩ := exec_vfyRx_cases s t h <;> exact ending_withMatch .vfyRx _ _ (.inr rfl) (by decide)
  | enc => exact exec_enc_ending h
  | dec => exact exec_dec_ending h
  | connect a => exact exec_connect_ending h
  | send => exact exec_send_ending h
  | recv => exact exec_recv_ending h
  | disconnect => exact exec_disconnect_ending h

/-- Settles O51: on every path the registers and buffer bytes changed are those listed. -/
theorem commandsChangeOnlyTheirRegisters : Obligations.CommandsChangeOnlyTheirRegisters := fun i s t h =>
  ⟨(exec_ending i s t h).reads, (exec_ending i s t h).world⟩

/-- Settles O48: the sequences a session command can issue, one for each way its path can end. -/
theorem noTransportTransactionIsRepeated : Obligations.NoTransportTransactionIsRepeated := by
  refine ⟨fun a s t h => ?_, fun s t h => ?_, fun s t h => ?_, fun s t h => ?_⟩
  · simpa [possibleCalls] using (exec_ending (.connect a) s t h).issued
  · simpa [possibleCalls] using (exec_ending .send s t h).issued
  · simpa [possibleCalls] using (exec_ending .recv s t h).issued
  · simpa [possibleCalls] using (exec_ending .disconnect s t h).issued

end Sys2Proof.Machine

/-! SUPPORT. What a host access and a command leave alone (42_session.md R128, 10_state.md R12, R14). -/

namespace Sys2Proof.Machine

/-! ### Host accesses -/

/-- No host write reaches `STATUS` or `SESSION` (43_host_access.md R153). -/
theorem writeReg_regWord_status (s : State) (v : Word) (r : HostReg) : (s.writeReg v r).regWord .status = s.regWord .status := by
  cases r <;> rfl

theorem writeReg_regWord_session (s : State) (v : Word) (r : HostReg) : (s.writeReg v r).regWord .session = s.regWord .session := by
  cases r <;> rfl

/-- A step that takes a host read, or a host write to another register than `CMD`. -/
theorem step_hostAccess {s t : State} {n : RegNum} {v : Word} {es : List Event} (h : step s = .next t)
    (he : s.events = .read n :: es ∨ (s.events = .write n v :: es ∧ n ≠ 0x000)) :
    t.regWord .status = s.regWord .status ∧ t.regWord .session = s.regWord .session ∧ issuedExactly [] s t := by
  obtain he | ⟨he, hn⟩ := he
  · rw [step_read s n es he] at h
    cases h
    exact ⟨rfl, rfl, issuedExactly_nil s⟩
  · rw [step_write s n v es he hn] at h
    cases h
    exact ⟨writeReg_regWord_status _ v _, writeReg_regWord_session _ v _, writeReg_issued (s.withEvents es) v _⟩

/-! ### Commands -/

theorem storesTo_buffer {i : Instr} {s : State} {r : HostReg} (h : storesTo i s r) :
    (∃ j, r = .txbuf j) ∨ ∃ j, r = .rxbuf j := by
  cases i with
  | enc =>
    obtain ⟨-, j, hj, -⟩ := h
    exact .inl ⟨j, hj⟩
  | send =>
    obtain ⟨-, -, -, j, hj, -⟩ := h
    exact .inl ⟨j, hj⟩
  | recv =>
    obtain ⟨-, bs, -, j, hj, -⟩ := h
    exact .inr ⟨j, hj⟩
  | connect a =>
    obtain ⟨-, -, ⟨j, hj, -⟩ | ⟨-, bs, -, j, hj, -⟩⟩ := h
    · exact .inl ⟨j, hj⟩
    · exact .inr ⟨j, hj⟩
  | _ => exact h.elim

/-- A register that is no buffer byte and is not listed as written by the command reads as before. -/
theorem exec_regWord {i : Instr} {s t : State} {r : HostReg} (h : exec i s = .next t) (hr : ¬ commandWrites i r)
    (htx : ∀ j, r ≠ .txbuf j) (hrx : ∀ j, r ≠ .rxbuf j) : t.regWord r = s.regWord r := by
  refine (exec_ending i s t h).reads r ?_
  rintro (hwrites | hstores)
  · exact hr hwrites
  · obtain ⟨j, hj⟩ | ⟨j, hj⟩ := storesTo_buffer hstores
    · exact htx j hj
    · exact hrx j hj

theorem not_commandWrites_session {i : Instr} (hi : isSessionCommand i = false) : ¬ commandWrites i .session := by
  cases i with
  | connect a => cases hi
  | send => cases hi
  | recv => cases hi
  | disconnect => cases hi
  | _ => simp [commandWrites]

/-- The CRC unit and the codec leave the session alone. -/
theorem exec_session_of_not_session {i : Instr} {s t : State} (h : exec i s = .next t) (hi : isSessionCommand i = false) :
    t.regWord .session = s.regWord .session :=
  exec_regWord h (not_commandWrites_session hi) nofun nofun

/-- The CRC unit and the codec leave the transport alone. -/
theorem exec_issued_of_not_session {i : Instr} {s t : State} (h : exec i s = .next t) (hi : isSessionCommand i = false) :
    issuedExactly [] s t := by
  obtain ⟨calls, hcalls, hissued⟩ := (exec_ending i s t h).issued
  have hnone : possibleCalls i s = [[]] := by
    cases i with
    | connect a => cases hi
    | send => cases hi
    | recv => cases hi
    | disconnect => cases hi
    | _ => rfl
  rw [hnone, List.mem_singleton] at hcalls
  exact hcalls ▸ hissued

/-- What the session unit does not write: the host's operands but `RXLEN`, and the CRC. -/
theorem not_commandWrites_of_session {i : Instr} {r : HostReg} (hi : isSessionCommand i = true)
    (hr : r = .addr ∨ r = .func ∨ r = .plen ∨ r = .clen ∨ r = .exp ∨ r = .crc) : ¬ commandWrites i r := by
  cases i with
  | connect a => obtain rfl | rfl | rfl | rfl | rfl | rfl := hr <;> simp [commandWrites]
  | send => obtain rfl | rfl | rfl | rfl | rfl | rfl := hr <;> simp [commandWrites]
  | recv => obtain rfl | rfl | rfl | rfl | rfl | rfl := hr <;> simp [commandWrites]
  | disconnect => obtain rfl | rfl | rfl | rfl | rfl | rfl := hr <;> simp [commandWrites]
  | _ => cases hi

/-- Settles O49: what each unit changes and issues does not reach the state of the others. -/
theorem unitsAreIndependent : Obligations.UnitsAreIndependent := by
  refine ⟨?_, ?_, ?_⟩
  · intro i s t h hi
    exact ⟨exec_session_of_not_session h hi, exec_issued_of_not_session h hi⟩
  · intro s t n v es h he
    obtain ⟨-, hsession, hissued⟩ := step_hostAccess h he
    exact ⟨hsession, hissued⟩
  · intro i s t h hi
    constructor
    · exact (exec_ending i s t h).matched (fun htx => by simp [htx, isSessionCommand] at hi)
        (fun hrx => by simp [hrx, isSessionCommand] at hi)
    · intro r hr
      exact exec_regWord h (not_commandWrites_of_session hi hr) (fun j hj => by simp [hj] at hr) (fun j hj => by simp [hj] at hr)

/-! ### The writers of `CRC` (10_state.md R12) -/

theorem not_commandWrites_of_not_writesCrc {i : Instr} {r : HostReg} (hi : writesCrc i = false)
    (hr : r = .crc ∨ r = .exp ∨ r = .clen) : ¬ commandWrites i r := by
  cases i with
  | crcInit => cases hi
  | crcByte b => cases hi
  | crcTx => cases hi
  | crcRx => cases hi
  | _ => obtain rfl | rfl | rfl := hr <;> simp [commandWrites]

theorem windowReg_eq_crc : ∀ (p : BitVec 3) (i : Byte), windowReg p i = .crc → p = 0 ∧ i = 0x0A := by decide

/-- `CRC` is register 0x00A and no other (20_memory.md R41). -/
theorem eq_of_hostReg_eq_crc {n : RegNum} (h : hostReg n = .crc) : n = 0x00A := by
  obtain ⟨p, i, hn⟩ := exists_window n
  rw [hostReg_of_window n p i hn] at h
  obtain ⟨rfl, rfl⟩ := windowReg_eq_crc p i h
  exact BitVec.eq_of_toNat_eq hn

/-- A host write to another register leaves `CRC`. -/
theorem writeReg_regWord_crc (s : State) (v : Word) (r : HostReg) (h : r ≠ .crc) :
    (s.writeReg v r).regWord .crc = s.regWord .crc := by
  cases r with
  | crc => exact absurd rfl h
  | _ => rfl

/-- Settles O52: of the commands by what each may write, of the events one by one. -/
theorem crcRegisterHasFewWriters : Obligations.CrcRegisterHasFewWriters := by
  constructor
  · intro i s t h hi
    exact ⟨exec_regWord h (not_commandWrites_of_not_writesCrc hi (.inl rfl)) nofun nofun,
      exec_regWord h (not_commandWrites_of_not_writesCrc hi (.inr (.inl rfl))) nofun nofun,
      exec_regWord h (not_commandWrites_of_not_writesCrc hi (.inr (.inr rfl))) nofun nofun⟩
  · intro s t h hchanged
    obtain ⟨-, rfl⟩ | ⟨n, es, -, rfl⟩ | ⟨n, v, es, he, -, rfl⟩ | ⟨w, es, i, he, hd, hx⟩ | ⟨w, es, c, -, -, rfl⟩ |
      ⟨es, he, -⟩ | ⟨w, calls, es, whole, he, -, -⟩ := step_cases s t h
    · exact absurd rfl hchanged
    · exact absurd rfl hchanged
    · have hreg : hostReg n = .crc := by
        by_contra hreg
        exact hchanged (writeReg_regWord_crc (s.withEvents es) v (hostReg n) hreg)
      obtain rfl := eq_of_hostReg_eq_crc hreg
      exact .inl ⟨v, es, he⟩
    · have hwrites : writesCrc i = true := by
        by_contra hwrites
        have hkept : t.regWord .crc = (s.withEvents es).regWord .crc :=
          exec_regWord hx (not_commandWrites_of_not_writesCrc (Bool.eq_false_iff.2 hwrites) (.inl rfl)) nofun nofun
        exact hchanged hkept
      exact .inr (.inl ⟨w, es, i, he, hd, hwrites⟩)
    · exact absurd rfl hchanged
    · exact .inr (.inr (.inl ⟨es, he⟩))
    · exact .inr (.inr (.inr ⟨w, calls, es, he⟩))

end Sys2Proof.Machine

/-! SUPPORT. No command reads `STATUS` (10_state.md R14). -/

namespace Sys2Proof.Machine

/-- A state with another `STATUS`. -/
def State.withStatus (s : State) (k : StatusCode) (m : Bool) : State := (s.withCode k).withMatch m

theorem crcCommand_withStatus (bytes : List Byte) (s : State) (k : StatusCode) (m : Bool) :
    crcCommand bytes (s.withStatus k m) = (crcCommand bytes s).withMatch m := by
  obtain hlong | hfits := Nat.lt_or_ge 256 s.clen.toNat
  · rw [crcCommand_tooLong bytes s hlong, crcCommand_tooLong bytes (s.withStatus k m) hlong]
    rfl
  · rw [crcCommand_ok bytes s hfits, crcCommand_ok bytes (s.withStatus k m) hfits]
    rfl

/-- `VFY.TX` and `VFY.RX` write both parts of `STATUS`. -/
theorem verifyCommand_withStatus (bytes : List Byte) (s : State) (k : StatusCode) (m : Bool) :
    verifyCommand bytes (s.withStatus k m) = verifyCommand bytes s := by
  obtain hlong | hfits := Nat.lt_or_ge 256 s.clen.toNat
  · rw [verifyCommand_tooLong bytes s hlong, verifyCommand_tooLong bytes (s.withStatus k m) hlong]
    rfl
  · rw [verifyCommand_ok bytes s hfits, verifyCommand_ok bytes (s.withStatus k m) hfits]
    rfl

section
variable {s t : State} (k : StatusCode) (m : Bool)

theorem exec_enc_withStatus (h : exec .enc s = .next t) : exec .enc (s.withStatus k m) = .next (t.withMatch m) := by
  obtain ⟨hr, rfl⟩ | ⟨hr, rfl⟩ := exec_enc_cases s t h
  · exact exec_enc_refused (s.withStatus k m) hr
  · exact exec_enc_ok (s.withStatus k m) (Bool.eq_false_iff.1 hr)

theorem exec_dec_withStatus (h : exec .dec s = .next t) : exec .dec (s.withStatus k m) = .next (t.withMatch m) := by
  obtain ⟨hx, rfl⟩ | ⟨j, hx, hd, rfl⟩ | ⟨len, hx, hd, rfl⟩ := exec_dec_cases s t h
  · exact exec_dec_tooLong (s.withStatus k m) hx
  · exact exec_dec_error (s.withStatus k m) j hx hd
  · exact exec_dec_ok (s.withStatus k m) len hx hd

theorem exec_disconnect_withStatus (h : exec .disconnect s = .next t) :
    exec .disconnect (s.withStatus k m) = .next (t.withMatch m) := by
  obtain ⟨hc, rfl⟩ | ⟨hc, rfl⟩ := exec_disconnect_cases s t h
  · exact exec_disconnect_closed (s.withStatus k m) hc
  · exact exec_disconnect_open (s.withStatus k m) hc

theorem exec_recv_withStatus (h : exec .recv s = .next t) : exec .recv (s.withStatus k m) = .next (t.withMatch m) := by
  obtain ⟨hp, rfl⟩ | ⟨hp, hr, rfl⟩ | ⟨bs, j, hp, hr, hd, rfl⟩ | ⟨bs, len, hp, hr, hd, rfl⟩ := exec_recv_cases s t h
  · exact exec_recv_illegal (s.withStatus k m) hp
  · exact exec_recv_failed (s.withStatus k m) hp hr
  · exact exec_recv_error (s.withStatus k m) bs j hp hr hd
  · exact exec_recv_ok (s.withStatus k m) bs len hp hr hd

theorem exec_send_withStatus (h : exec .send s = .next t) : exec .send (s.withStatus k m) = .next (t.withMatch m) := by
  obtain ⟨hi, rfl⟩ | ⟨hi, hr, rfl⟩ | ⟨hi, hr, hw, rfl⟩ | ⟨hi, hr, hw, rfl⟩ := exec_send_cases s t h
  · exact exec_send_illegal (s.withStatus k m) hi
  · exact exec_send_invalid (s.withStatus k m) hi hr
  · exact exec_send_failed (s.withStatus k m) hi hr hw
  · exact exec_send_ok (s.withStatus k m) hi hr hw

theorem exec_connect_withStatus (a : Byte) (h : exec (.connect a) s = .next t) :
    exec (.connect a) (s.withStatus k m) = .next (t.withMatch m) := by
  obtain ⟨hc, rfl⟩ | ⟨hc, ho, rfl⟩ | ⟨hc, ho, hw, rfl⟩ | ⟨hc, ho, hw, hr, rfl⟩ | ⟨bs, j, hc, ho, hw, hr, hd, rfl⟩ |
    ⟨bs, len, hc, ho, hw, hr, hd, rfl⟩ := exec_connect_cases a s t h
  · exact exec_connect_illegal a (s.withStatus k m) hc
  · exact exec_connect_unopened a (s.withStatus k m) hc ho
  · exact exec_connect_unwritten a (s.withStatus k m) hc ho hw
  · exact exec_connect_unread a (s.withStatus k m) hc ho hw hr
  · exact exec_connect_undecoded a (s.withStatus k m) bs j hc ho hw hr hd
  · exact exec_connect_ok a (s.withStatus k m) bs len hc ho hw hr hd

end

/-- Settles O15: `MATCH` by what each command may write, the accesses by what they leave alone, and the independence of `STATUS` path by
path. -/
theorem statusIsWrittenByCommandsAndReadByNone : Obligations.StatusIsWrittenByCommandsAndReadByNone := by
  refine ⟨?_, ?_, ?_, ?_, rfl⟩
  · intro s
    have hcode := s.code.num_le
    have hmatch := s.matched.toNat_le
    rw [s.regWord_status, statusValue_toNat]
    exact ⟨by omega, by omega, statusValue_getLsbD_match s.code s.matched⟩
  · intro i s t h htx hrx
    exact (exec_ending i s t h).matched htx hrx
  · intro s t n v es h he
    exact (step_hostAccess h he).1
  · intro i s t k m h
    cases i with
    | crcInit => cases h; rfl
    | crcByte b => cases h; rfl
    | crcTx => cases h; exact congrArg Host.Outcome.next (crcCommand_withStatus _ s k m)
    | crcRx => cases h; exact congrArg Host.Outcome.next (crcCommand_withStatus _ s k m)
    | vfyTx => cases h; exact congrArg Host.Outcome.next (verifyCommand_withStatus _ s k m)
    | vfyRx => cases h; exact congrArg Host.Outcome.next (verifyCommand_withStatus _ s k m)
    | enc => exact exec_enc_withStatus k m h
    | dec => exact exec_dec_withStatus k m h
    | connect a => exact exec_connect_withStatus k m a h
    | send => exact exec_send_withStatus k m h
    | recv => exact exec_recv_withStatus k m h
    | disconnect => exact exec_disconnect_withStatus k m h

end Sys2Proof.Machine

/-! SUPPORT. The transition table of the session, cell by cell (42_session.md R122). -/

namespace Sys2Proof.Machine

section
variable {s t : State}

/-- A command that only writes its code. -/
theorem endsWith_of_exec_eq {i : Instr} {k : StatusCode} (hx : exec i s = .next (s.withCode k)) (h : exec i s = .next t) :
    endsWith k s.matched noReg [] s t := by
  obtain rfl := Host.Outcome.next.inj (hx.symm.trans h)
  exact endsWith_withCode k s

/-- The code `decode` reports for a bad reply is an error. -/
theorem frameDecode_error_ne_ok {raw : List Byte} {ea ef : Byte} {k : StatusCode} (h : frameDecode raw ea ef = .error k) :
    k ≠ .ok := by
  obtain rfl | rfl | rfl := frameDecode_error raw ea ef k h <;> decide

theorem exec_connect_from_disconnected {a : Byte} (h : exec (.connect a) s = .next t) (hs : s.isDisconnected) :
    (t.code = .ok ∧ t.isIdle ∧ t.devaddr = a) ∨ (t.code ≠ .ok ∧ t.isDisconnected) := by
  obtain ⟨hc, -⟩ | ⟨-, -, rfl⟩ | ⟨-, -, -, rfl⟩ | ⟨-, -, -, -, rfl⟩ | ⟨bs, k, -, -, -, -, hd, rfl⟩ |
    ⟨bs, len, -, -, -, -, -, rfl⟩ := exec_connect_cases a s t h
  · simp [hs.1] at hc
  · exact .inr ⟨nofun, hs⟩
  · exact .inr ⟨nofun, rfl, rfl⟩
  · exact .inr ⟨nofun, rfl, rfl⟩
  · exact .inr ⟨frameDecode_error_ne_ok hd, rfl, rfl⟩
  · exact .inl ⟨rfl, ⟨rfl, rfl⟩, rfl⟩

theorem exec_connect_from_connected {a : Byte} (h : exec (.connect a) s = .next t) (hs : s.connected = true) :
    endsWith .illegalState s.matched noReg [] s t :=
  endsWith_of_exec_eq (exec_connect_illegal a s hs) h

theorem exec_send_from_idle (h : exec .send s = .next t) (hs : s.isIdle) :
    (t.code = .ok ∧ t.isAwaiting ∧ t.pendfunc = s.func) ∨
      ((t.code = .invalidArgument ∨ t.code = .transportError) ∧ t.isIdle) := by
  obtain ⟨hi, -⟩ | ⟨-, -, rfl⟩ | ⟨-, -, -, rfl⟩ | ⟨-, -, -, rfl⟩ := exec_send_cases s t h
  · exact absurd hs hi
  · exact .inr ⟨.inl rfl, hs⟩
  · obtain ⟨hconnected, hpending, -⟩ := s.requestSent_session
    exact .inr ⟨.inr rfl, hconnected.trans hs.1, hpending.trans hs.2⟩
  · exact .inl ⟨rfl, ⟨rfl, rfl⟩, rfl⟩

theorem exec_send_from_elsewhere (h : exec .send s = .next t) (hs : ¬ s.isIdle) :
    endsWith .illegalState s.matched noReg [] s t :=
  endsWith_of_exec_eq (exec_send_illegal s hs) h

theorem exec_recv_from_awaiting (h : exec .recv s = .next t) (hs : s.isAwaiting) :
    t.isIdle ∧ t.code ∈ ([.ok, .timeout, .badCrc, .protocolError, .transportError] : List StatusCode) := by
  obtain ⟨hp, -⟩ | ⟨-, -, rfl⟩ | ⟨bs, k, -, -, hd, rfl⟩ | ⟨bs, len, -, -, -, rfl⟩ := exec_recv_cases s t h
  · simp [hs.2] at hp
  · exact ⟨⟨hs.1, rfl⟩, by simp⟩
  · refine ⟨⟨hs.1, rfl⟩, ?_⟩
    obtain rfl | rfl | rfl := frameDecode_error bs _ _ k hd <;> simp
  · exact ⟨⟨hs.1, rfl⟩, by simp⟩

theorem exec_recv_from_elsewhere (h : exec .recv s = .next t) (hs : s.pending = false) :
    endsWith .illegalState s.matched noReg [] s t :=
  endsWith_of_exec_eq (exec_recv_illegal s hs) h

theorem exec_disconnect_from_disconnected (h : exec .disconnect s = .next t) (hs : s.isDisconnected) :
    t.isDisconnected ∧ endsWith .ok s.matched noReg [] s t := by
  rw [exec_disconnect_closed s hs.1] at h
  cases h
  exact ⟨hs, endsWith_withCode .ok s⟩

theorem exec_disconnect_from_connected (h : exec .disconnect s = .next t) (hs : s.connected = true) :
    t.isDisconnected ∧ (t.code = .ok ∨ t.code = .transportError) := by
  rw [exec_disconnect_open s hs] at h
  cases h
  exact ⟨⟨rfl, rfl⟩, ite_eq_or_eq _ _ _⟩

end

/-- Settles O46: each cell is the paths of its command that the state admits. -/
theorem sessionTransitionTable : Obligations.SessionTransitionTable := by
  refine ⟨?_, ?_, ?_, ?_, ?_, ?_⟩
  · intro a s t h
    exact ⟨exec_connect_from_disconnected h, fun hs => exec_connect_from_connected h (hs.elim And.left And.left)⟩
  · intro s t h
    refine ⟨fun hs => exec_send_from_elsewhere h ?_, exec_send_from_idle h⟩
    rintro ⟨hc, hp⟩
    obtain hs | hs := hs
    · simp [hs.1] at hc
    · simp [hs.2] at hp
  · intro s t h
    exact ⟨fun hs => exec_recv_from_elsewhere h (hs.elim And.right And.right), exec_recv_from_awaiting h⟩
  · intro s t h
    exact ⟨exec_disconnect_from_disconnected h, fun hs => exec_disconnect_from_connected h (hs.elim And.left And.left)⟩
  · intro i s t h hi
    exact exec_session_of_not_session h hi
  · intro s t n v es h he
    obtain ⟨-, hsession, -⟩ := step_hostAccess h he
    exact hsession

end Sys2Proof.Machine

/-! SUPPORT. Every step completes; the resets (70_reset_and_hazards.md R230, R231). -/

namespace Sys2Proof.Machine

/-! ### Nothing stops the machine -/

theorem exec_completes (i : Instr) (s : State) : ∃ t, exec i s = .next t := by cases i <;> exact ⟨_, rfl⟩

theorem runCommand_completes (w : Word) (s : State) : ∃ t, runCommand w s = .next t := by
  cases hd : decode w with
  | ok i =>
    rw [runCommand_of_ok w s i hd]
    exact exec_completes i s
  | error c => exact ⟨_, runCommand_of_error w s c hd⟩

theorem runResetDuring_of_next {w : Word} {s whole : State} (calls : Nat) (h : runCommand w s = .next whole) :
    runResetDuring w calls s = .next (abandon calls s whole) := by
  rw [runResetDuring, h]

/-- Settles O7: event by event; a command has a next state on every path. -/
theorem everyStepCompletes : Obligations.EveryStepCompletes := by
  intro s
  cases he : s.events with
  | nil => exact ⟨_, step_idle s he⟩
  | cons e es =>
    cases e with
    | read n => exact ⟨_, step_read s n es he⟩
    | write n v =>
      by_cases hn : n = 0x000
      · subst hn
        rw [step_cmd s v es he]
        exact runCommand_completes v _
      · exact ⟨_, step_write s n v es he hn⟩
    | reset => exact ⟨_, step_reset s es he⟩
    | resetDuring w calls =>
      obtain ⟨whole, hwhole⟩ := runCommand_completes w (s.withEvents es)
      rw [step_resetDuring s w calls es he]
      exact ⟨_, runResetDuring_of_next calls hwhole⟩

/-! ### A reset -/

/-- Settles O17: field by field. -/
theorem resetStateHoldsTheStatedValues : Obligations.ResetStateHoldsTheStatedValues :=
  ⟨rfl, rfl, rfl, rfl, rfl, rfl, rfl, rfl, rfl, rfl, rfl, fun _ => ⟨rfl, rfl⟩, rfl⟩

/-- Settles O18: a reset block, with the outside world's side of the state as it was. -/
theorem resetEventRestoresEveryRegister : Obligations.ResetEventRestoresEveryRegister := by
  intro s es he
  exact ⟨_, step_reset s es he, fun r htx hrx => resetBlock_regWord _ r htx hrx,
    fun i => ⟨State.resetBlock_txByte _ i, State.resetBlock_rxByte _ i⟩, ⟨rfl, rfl⟩, rfl, rfl⟩

/-! ### A reset during a command (R230) -/

theorem runCommand_issued {w : Word} {s t : State} (h : runCommand w s = .next t) : ∃ calls, issuedExactly calls s t := by
  obtain ⟨i, -, hx⟩ | ⟨c, -, rfl⟩ := runCommand_cases w s t h
  · obtain ⟨calls, -, hissued⟩ := (exec_ending i s t hx).issued
    exact ⟨calls, hissued⟩
  · exact ⟨[], issuedExactly_nil s⟩

/-- Of the transactions a whole command issues, an abandoned one has issued the first `n`. -/
theorem abandon_issued {calls : List TpCall} {s t : State} (n : Nat) (h : issuedExactly calls s t) :
    issuedExactly (calls.take n) s (abandon n s t) := by
  obtain ⟨hcalls, -⟩ := h
  have hcount : t.tpCalls.length - s.tpCalls.length = calls.length := by simp [hcalls]
  constructor
  · show t.tpCalls.drop (t.tpCalls.length - s.tpCalls.length - min n (t.tpCalls.length - s.tpCalls.length)) = _
    have hskip : calls.length - min n calls.length = calls.length - n := by omega
    rw [hcount, hskip, hcalls, List.drop_append_of_le_length (by simp), List.reverse_take]
  · show s.tpReplies.drop (min n (t.tpCalls.length - s.tpCalls.length)) = _
    rw [hcount, List.length_take]

theorem issuedExactly_take_suffix {calls : List TpCall} {s t u : State} {n : Nat} (ht : issuedExactly calls s t)
    (hu : issuedExactly (calls.take n) s u) : u.tpCalls <:+ t.tpCalls := by
  refine ⟨(calls.drop n).reverse, ?_⟩
  rw [ht.1, hu.1, ← List.append_assoc, ← List.reverse_append, List.take_append_drop]

/-- Settles O19: a reset block, and the first transactions of the whole command. -/
theorem resetDuringACommandAbandonsIt : Obligations.ResetDuringACommandAbandonsIt := by
  intro s w n es he
  obtain ⟨whole, hwhole⟩ := runCommand_completes w (s.withEvents es)
  obtain ⟨calls, hissued⟩ := runCommand_issued hwhole
  have hfirst := abandon_issued n hissued
  refine ⟨abandon n (s.withEvents es) whole, whole, ?_, hwhole, ?_, issuedExactly_take_suffix hissued hfirst, ?_, ?_, ?_,
    fun _ => ⟨rfl, rfl⟩, rfl, rfl⟩
  · rw [step_resetDuring s w n es he, runResetDuring_of_next n hwhole]
  · intro r htx hrx
    exact resetBlock_regWord _ r htx hrx
  · exact ⟨_, hfirst.1.symm⟩
  · rw [hfirst.1, hissued.1]
    simp only [List.length_append, List.length_reverse, List.length_take, State.withEvents_tpCalls]
    omega
  · rw [hfirst.2, hfirst.1]
    simp

end Sys2Proof.Machine

/-! SUPPORT. The transport's answers (20_memory.md R49 to R52), and the states that make a command end with each of its codes
(60_exceptions.md R201). -/

namespace Sys2Proof.Machine

/-! ### Answers that are scheduled -/

/-- A state in which the transport's next answers are given. -/
def State.withReplies (s : State) (rs : List Reply) : State := s.withTp rs s.tpCalls

/-- An answer `ok` that reports `n` bytes written and returns `bs`, whichever the transaction asks for. -/
def replyOk (n : Nat) (bs : List Byte) : Reply := ⟨false, n, bs⟩

/-- The answer `error`. -/
def replyError : Reply := ⟨true, 0, []⟩

theorem State.withReplies_replyAt (s : State) (rs : List Reply) (k : Nat) (hk : k < rs.length) :
    (s.withReplies rs).replyAt k = rs[k] := by
  simp [State.replyAt, State.withReplies, hk]

theorem replyOk_accepted (n : Nat) (bs : List Byte) : (replyOk n bs).accepted = true := rfl

theorem replyOk_written (n len : Nat) (bs : List Byte) (h : n ≤ len) : (replyOk n bs).written len = some n := by
  simp [Reply.written, replyOk, h]

theorem replyOk_received (n : Nat) (bs : List Byte) (h : bs.length ≤ 256) : (replyOk n bs).received 256 = some bs := by
  simp [Reply.received, replyOk, List.take_of_length_le h]

/-- Settles O53: the count and the bytes are brought into their ranges, and any one answer can be scheduled next. -/
theorem transportAnswersAreTheAdmissibleOnes : Obligations.TransportAnswersAreTheAdmissibleOnes := by
  refine ⟨?_, ?_, ?_, ?_, ?_, ?_, ?_⟩
  · intro s F n h
    exact Reply.written_le _ F.length n h
  · intro s bs h
    exact Reply.received_le _ 256 bs h
  · intro s F n h
    exact ⟨[replyOk n []], replyOk_written n F.length [] h⟩
  · intro s F
    exact ⟨[replyError], rfl⟩
  · intro s bs h
    exact ⟨[replyOk 0 bs], replyOk_received 0 bs h⟩
  · intro s
    exact ⟨[replyError], rfl⟩
  · intro s b
    cases b with
    | true => exact ⟨[replyOk 0 []], rfl, rfl⟩
    | false => exact ⟨[replyError], rfl, rfl⟩

/-! ### Every outcome of `decode` occurs, whatever address and function are expected -/

theorem exists_frameDecode_ok (ea ef : Byte) : ∃ raw, raw.length ≤ 256 ∧ frameDecode raw ea ef = .ok 0 :=
  ⟨wireFrame ea ef [], by simp, (frameDecode_wireFrame ea ef ea ef []).trans (if_pos ⟨rfl, rfl⟩)⟩

theorem exists_frameDecode_error (ea ef : Byte) (k : StatusCode) (hk : k ∈ ([.timeout, .badCrc, .protocolError] : List StatusCode)) :
    ∃ raw, raw.length ≤ 256 ∧ frameDecode raw ea ef = .error k := by
  obtain rfl | rfl | rfl : k = .timeout ∨ k = .badCrc ∨ k = .protocolError := by simpa using hk
  · exact ⟨[], by simp, frameDecode_short [] ea ef (by decide)⟩
  · exact ⟨[0, 0, 0, 0], by simp, (frameDecode_parts 0 0 0 0 ea ef []).trans (if_neg (by decide))⟩
  · have hforeign : ¬ (ea = ea ∧ ef + 1 = ef) := by
      rintro ⟨-, hf⟩
      bv_omega
    exact ⟨wireFrame ea (ef + 1) [], by simp, (frameDecode_wireFrame ea (ef + 1) ea ef []).trans (if_neg hforeign)⟩

/-! ### States for each command and code -/

/-- A command can end with a code. -/
def canEnd (i : Instr) (k : StatusCode) : Prop := ∃ s t, exec i s = .next t ∧ t.code = k

/-- `RXBUF` holds these bytes, and `RXLEN` counts them. -/
def receivedState (raw : List Byte) : State := (State.reset.loadRx raw).withRxlen (len9 raw.length)

theorem receivedState_rxlen {raw : List Byte} (h : raw.length ≤ 256) : (receivedState raw).rxlen.toNat = raw.length :=
  len9_toNat raw.length (by omega)

theorem receivedState_rxSlice {raw : List Byte} (h : raw.length ≤ 256) :
    (receivedState raw).rxSlice 0 (receivedState raw).rxlen.toNat = raw := by
  rw [receivedState_rxlen h]
  exact State.loadRx_rxSlice State.reset raw

theorem canEnd_dec {k : StatusCode} (hk : k ∈ endingCodes .dec) : canEnd .dec k := by
  obtain rfl | rfl | hk : k = .ok ∨ k = .invalidArgument ∨ k ∈ ([.timeout, .badCrc, .protocolError] : List StatusCode) := by
    simpa [endingCodes] using hk
  · obtain ⟨raw, hlen, hd⟩ := exists_frameDecode_ok 0 0
    rw [← receivedState_rxSlice hlen] at hd
    exact ⟨_, _, exec_dec_ok (receivedState raw) 0 ((receivedState_rxlen hlen).trans_le hlen) hd, rfl⟩
  · exact ⟨_, _, exec_dec_tooLong (State.reset.withRxlen 257) (by decide), rfl⟩
  · obtain ⟨raw, hlen, hd⟩ := exists_frameDecode_error 0 0 k hk
    rw [← receivedState_rxSlice hlen] at hd
    exact ⟨_, _, exec_dec_error (receivedState raw) k ((receivedState_rxlen hlen).trans_le hlen) hd, rfl⟩

/-- Disconnected, and the transport opens, takes the identification request and returns these bytes. -/
def identifiedState (raw : List Byte) : State := State.reset.withReplies [replyOk 0 [], replyOk 4 [], replyOk 0 raw]

theorem identifiedState_received {raw : List Byte} (h : raw.length ≤ 256) :
    ((identifiedState raw).replyAt 2).received 256 = some raw := replyOk_received 0 raw h

theorem canEnd_connect (a : Byte) {k : StatusCode} (hk : k ∈ endingCodes (.connect a)) : canEnd (.connect a) k := by
  obtain rfl | rfl | rfl | hk : k = .ok ∨ k = .transportError ∨ k = .illegalState ∨
      k ∈ ([.timeout, .badCrc, .protocolError] : List StatusCode) := by
    simp only [endingCodes, List.mem_cons, List.not_mem_nil, or_false] at hk ⊢
    tauto
  · obtain ⟨raw, hlen, hd⟩ := exists_frameDecode_ok a 0x11
    exact ⟨_, _, exec_connect_ok a (identifiedState raw) raw 0 rfl rfl rfl (identifiedState_received hlen) hd, rfl⟩
  · exact ⟨_, _, exec_connect_unopened a (State.reset.withReplies [replyError]) rfl rfl, rfl⟩
  · exact ⟨_, _, exec_connect_illegal a (State.reset.withSession true false 0 0) rfl, rfl⟩
  · obtain ⟨raw, hlen, hd⟩ := exists_frameDecode_error a 0x11 k hk
    exact ⟨_, _, exec_connect_undecoded a (identifiedState raw) raw k rfl rfl rfl (identifiedState_received hlen) hd, rfl⟩

/-- Awaiting the reply to function 1 at address 0, and the transport answers the read as given. -/
def awaitingState (r : Reply) : State := (State.reset.withSession true true 0 1).withReplies [r]

theorem canEnd_recv {k : StatusCode} (hk : k ∈ endingCodes .recv) : canEnd .recv k := by
  obtain rfl | rfl | rfl | hk : k = .ok ∨ k = .transportError ∨ k = .illegalState ∨
      k ∈ ([.timeout, .badCrc, .protocolError] : List StatusCode) := by
    simp only [endingCodes, List.mem_cons, List.not_mem_nil, or_false] at hk ⊢
    tauto
  · obtain ⟨raw, hlen, hd⟩ := exists_frameDecode_ok 0 1
    exact ⟨_, _, exec_recv_ok (awaitingState (replyOk 0 raw)) raw 0 rfl (replyOk_received 0 raw hlen) hd, rfl⟩
  · exact ⟨_, _, exec_recv_failed (awaitingState replyError) rfl rfl, rfl⟩
  · exact ⟨_, _, exec_recv_illegal State.reset rfl, rfl⟩
  · obtain ⟨raw, hlen, hd⟩ := exists_frameDecode_error 0 1 k hk
    exact ⟨_, _, exec_recv_error (awaitingState (replyOk 0 raw)) raw k rfl (replyOk_received 0 raw hlen) hd, rfl⟩

/-- Idle with a request of function 1 and no payload, and the transport answers the write as given. -/
def requestState (r : Reply) : State := ((State.reset.withSession true false 0 0).withFunc 1).withReplies [r]

theorem canEnd_send {k : StatusCode} (hk : k ∈ endingCodes .send) : canEnd .send k := by
  obtain rfl | rfl | rfl | rfl : k = .ok ∨ k = .invalidArgument ∨ k = .transportError ∨ k = .illegalState := by
    simpa [endingCodes] using hk
  · exact ⟨_, _, exec_send_ok (requestState (replyOk 4 [])) ⟨rfl, rfl⟩ rfl rfl, rfl⟩
  · exact ⟨_, _, exec_send_invalid (State.reset.withSession true false 0 0) ⟨rfl, rfl⟩ rfl, rfl⟩
  · exact ⟨_, _, exec_send_failed (requestState replyError) ⟨rfl, rfl⟩ rfl nofun, rfl⟩
  · exact ⟨_, _, exec_send_illegal State.reset (fun h => nomatch h.1), rfl⟩

theorem canEnd_disconnect {k : StatusCode} (hk : k ∈ endingCodes .disconnect) : canEnd .disconnect k := by
  obtain rfl | rfl : k = .ok ∨ k = .transportError := by simpa [endingCodes] using hk
  · exact ⟨_, _, exec_disconnect_closed State.reset rfl, rfl⟩
  · exact ⟨_, _, exec_disconnect_open ((State.reset.withSession true false 0 0).withReplies [replyError]) rfl, rfl⟩

theorem canEnd_enc {k : StatusCode} (hk : k ∈ endingCodes .enc) : canEnd .enc k := by
  obtain rfl | rfl : k = .ok ∨ k = .invalidArgument := by simpa [endingCodes] using hk
  · exact ⟨_, _, exec_enc_ok (State.reset.withFunc 1) (by decide), rfl⟩
  · exact ⟨_, _, exec_enc_refused State.reset rfl, rfl⟩

/-- The commands that test `CLEN` end with `OK` on no byte and refuse 257. -/
theorem canEnd_of_clen (i : Instr) (k : StatusCode) (hk : k = .ok ∨ k = .invalidArgument)
    (hok : ∃ t, exec i State.reset = .next t ∧ t.code = .ok)
    (hlong : ∃ t, exec i (State.reset.withClen 257) = .next t ∧ t.code = .invalidArgument) : canEnd i k := by
  obtain rfl | rfl := hk
  · exact ⟨_, hok⟩
  · exact ⟨_, hlong⟩

/-- Each code the table gives a command is met from some state. -/
theorem canEnd_of_mem (i : Instr) (k : StatusCode) (hk : k ∈ endingCodes i) : canEnd i k := by
  cases i with
  | crcInit =>
    obtain rfl : k = .ok := by simpa [endingCodes] using hk
    exact ⟨State.reset, _, rfl, rfl⟩
  | crcByte b =>
    obtain rfl : k = .ok := by simpa [endingCodes] using hk
    exact ⟨State.reset, _, rfl, rfl⟩
  | crcTx => exact canEnd_of_clen _ k (by simpa [endingCodes] using hk) ⟨_, rfl, rfl⟩ ⟨_, rfl, rfl⟩
  | crcRx => exact canEnd_of_clen _ k (by simpa [endingCodes] using hk) ⟨_, rfl, rfl⟩ ⟨_, rfl, rfl⟩
  | vfyTx => exact canEnd_of_clen _ k (by simpa [endingCodes] using hk) ⟨_, rfl, rfl⟩ ⟨_, rfl, rfl⟩
  | vfyRx => exact canEnd_of_clen _ k (by simpa [endingCodes] using hk) ⟨_, rfl, rfl⟩ ⟨_, rfl, rfl⟩
  | enc => exact canEnd_enc hk
  | dec => exact canEnd_dec hk
  | connect a => exact canEnd_connect a hk
  | send => exact canEnd_send hk
  | recv => exact canEnd_recv hk
  | disconnect => exact canEnd_disconnect hk

/-- Settles O50: every path ends with a code of the table, and every code of the table has a state that leads to it. -/
theorem commandsEndWithTheTabledCodes : Obligations.CommandsEndWithTheTabledCodes := by
  intro i k
  constructor
  · rintro ⟨s, t, h, rfl⟩
    exact (exec_ending i s t h).code
  · intro hk
    exact canEnd_of_mem i k hk

end Sys2Proof.Machine
